-- ==== Sys2Proof/Word.lean ====
section
/-! DEFINITION. The words of the loop and the numbers by which the part names its records. -/

namespace Sys2Proof

/-- One service character's data, 8 bits (R180, R196). -/
abbrev Byte := BitVec 8

/-- The data of one slot, 16 bits (R165, R196). -/
abbrev Half := BitVec 16

/-- A 32-bit wrapping count: the belt odometer (R9), the totalizer (R156), the unassigned account (R12). -/
abbrev Count32 := BitVec 32

/-- Holds are numbered 1 to 9; `h : HoldNo` is the hold with number `h + 1`. -/
abbrev HoldNo := Fin 9

/-- Bill records are numbered 1 to 12; `b : BillNo` is the record with number `b + 1`. -/
abbrev BillNo := Fin 12

/-- Dust zones are numbered 1 to 6; `z : ZoneNo` is the zone with number `z + 1`. -/
abbrev ZoneNo := Fin 6

/-- Contact inputs are numbered 0 to 15. -/
abbrev InputNo := Fin 16

/-- Loop slots are numbered 0 to 39, in order of arrival. -/
abbrev SlotNo := Fin 40

end Sys2Proof
end

