-- ==== Sys2Proof/Syntax.lean ====
section
/-! DEFINITION. The commands of the block: one constructor of `Instr` for each row of
spec/opcode_table.json, with the row's operands. -/

namespace Sys2Proof

/-- The three axes of the spout (R90). -/
inductive Axis | travel | reach | drop
deriving DecidableEq, Repr

/-- The two deck rangers (R49). -/
inductive Deck | fore | aft
deriving DecidableEq, Repr

/-- The bindings of SAMPLE slots, in the order of R169. -/
inductive SampleBinding
  | scaleLoad | beltPulses | travelPos | reachPos | dropPos | deckFore | deckAft
  | dust (z : ZoneNo)
  | contacts | gatePos
deriving DecidableEq, Repr

/-- The bindings of COMMAND slots, in the order of R169. -/
inductive CommandBinding | travelCmd | reachCmd | dropCmd | gateCmd
deriving DecidableEq, Repr

/-- One slot of a frame: V flag, T flag and 16 data bits (R165, R196). -/
structure Slot where
  v : Bool
  t : Bool
  data : Half
deriving DecidableEq, Repr

/-- One service character: S flag, P flag and 8 data bits (R180, R196). -/
structure ServiceChar where
  s : Bool
  p : Bool
  data : Byte
deriving DecidableEq, Repr

/-- One frame of the quay loop in the parts of R196. -/
structure Frame where
  sync : Half
  frameCount : Byte
  attention : Bool
  slots : Vector Slot 40
  char1 : ServiceChar
  char2 : ServiceChar
  check : Half
deriving DecidableEq, Repr

/-- The two kinds of loop period event of R165: the arrival of a frame with good sync in RUN, or the
expiry of the part's own timebase. -/
inductive LoopPeriod
  | frame (f : Frame)
  | expiry
deriving DecidableEq, Repr

/-- How the loop leaves RUN (R166): the third missed sync, or the loss of the line signal. -/
inductive RunLoss | missedSync | lineLost
deriving DecidableEq, Repr

/-- What makes a pending PART_RESET take effect (R194): the end of its reply, or the discarding of that
reply when the loop leaves RUN. -/
inductive ResetCause | replyEnd | replyDiscarded (loss : RunLoss)
deriving DecidableEq, Repr

/-- The events in which the spout can become ready or an interruption can end (R69, R75): an event that
waits to be taken, a frame at loop-in, or a request without parameters. -/
inductive Cause
  | weighing | axis (a : Axis) | deck (d : Deck) | dust (z : ZoneNo) | purge (z : ZoneNo)
  | contacts | gatePos
  | frame (f : Frame) | frameOutsideRun (f : Frame) (onTime : Bool)
  | ackContact | abortZero | resume | beginLoading
deriving DecidableEq, Repr

/-- The commands. A request carries its parameter characters as they stand after the request code (R181,
R197, R198). An event that the loop port has handed over (R171) carries no value: it takes what waits.
A row that names what comes about inside another event carries the operands of that event. -/
inductive Instr
  -- Chapter 1
  | loadWeigh (p : List Byte)
  | zeroScale (p : List Byte)
  | abortZero (p : List Byte)
  | readWeigh (p : List Byte)
  -- Chapter 2
  | readTransit (p : List Byte)
  -- Chapter 3
  | loadVessel (p : List Byte)
  | loadHold (p : List Byte)
  | readHold (p : List Byte)
  -- Chapter 4
  | appendStep (p : List Byte)
  | insertStep (p : List Byte)
  | deleteStep (p : List Byte)
  | setTarget (p : List Byte)
  | skipStep (p : List Byte)
  | holdPlan (p : List Byte)
  | proceed (p : List Byte)
  | prunePlan (p : List Byte)
  | readPlan (p : List Byte)
  -- Chapter 5
  | loadAxis (p : List Byte)
  | readSpout (p : List Byte)
  -- Chapter 6
  | loadZone (p : List Byte)
  | ackDust (p : List Byte)
  | readExposure (p : List Byte)
  | readZone (p : List Byte)
  -- Chapter 7
  | readGate (p : List Byte)
  | loadContact (p : List Byte)
  | ackContact (p : List Byte)
  -- Chapter 8
  | openLot (p : List Byte)
  | closeBill (p : List Byte)
  | releaseBill (p : List Byte)
  | readBill (p : List Byte)
  -- Chapter 9
  | loadSlot (p : List Byte)
  | loadLoop (p : List Byte)
  | readLoop (p : List Byte)
  -- Chapter 10
  | pollNotice (p : List Byte)
  -- Chapter 11
  | beginLoading (p : List Byte)
  | endLoading (p : List Byte)
  | suspend (p : List Byte)
  | resume (p : List Byte)
  | readMode (p : List Byte)
  | partReset (p : List Byte)
  -- the service unit's own outcomes
  | unknownRequest (code : Byte) (p : List Byte)
  | requestOverrun (code : Byte) (p : List Byte)
  -- loop traffic
  | loopPeriodEvent (f : Frame)
  | timebaseExpiry
  | lineSignalLost
  | lineSignalPresent
  | provingComplete (f : Frame)
  | runLost (loss : RunLoss)
  | errorWindowEnd (f : Frame)
  | qualityLow (f : Frame)
  | bindingNewlyLost (b : SampleBinding) (period : LoopPeriod)
  | commandTakeover (b : CommandBinding) (period : LoopPeriod)
  | frameFormation
  | replySent
  -- weighing and transit
  | weighingEvent
  | pulsesImplausibleLost
  | pulseRearm
  | segmentClose
  | deferredClose
  | parcelDischarge
  | zeroComplete
  -- plan
  | spoutReadyPour (c : Cause)
  | interruptionEnd (c : Cause)
  | drainStart
  | drainComplete
  -- deck and axes
  | deckSample (d : Deck)
  | axisSample (a : Axis)
  | axisUnknown (a : Axis)
  | axisRecovery (a : Axis)
  -- dust
  | dustSample (z : ZoneNo)
  | dustRise (z : ZoneNo)
  | dustFall (z : ZoneNo)
  | dustStopFall (z : ZoneNo)
  | purgeTimerTick (z : ZoneNo)
  | purgeExpiry (z : ZoneNo)
  | dustLatch (z : ZoneNo)
  | dustReturn (z : ZoneNo)
  -- contacts and gate
  | contactsSample
  | contactDebounceChange (i : InputNo)
  | gatePosSample
  -- restarts
  | porstAsserted
  | powerOn (straps : BitVec 6) (bkvalid : Bool)
  | partResetEffect (cause : ResetCause)
  | loopRestart
  | frameArrivesOutsideRun (f : Frame) (onTime : Bool)
deriving DecidableEq, Repr

end Sys2Proof
end

