-- ==== Sys2Proof/Config.lean ====
section
/-! DEFINITION. What the spec fixes as a constant, and the free values: what it leaves open. -/

namespace Sys2Proof

/-- The sync pattern (R196). -/
def Config.syncPattern : Half := 0x1F35#16

/-- Free values (log 1): the k-th value the spec leaves open, drawn by the counter `State.freeCount`. It has
no body, so nothing can be proved of it. -/
opaque Config.freeValue : Nat → BitVec 32

/-- Free value (log 24): the density by which a parcel's litres would be counted whose bill record is FREE. R34 and
R158 together leave no such parcel with mass above 0. -/
opaque Config.densityOfFreeBill : BillNo → Nat

/-- The most parcels the transit queue holds (R23). -/
def Config.queueLimit : Nat := 96

/-- The most steps the plan list holds (R63). -/
def Config.stepLimit : Nat := 32

/-- The error window's length in frames (R167). -/
def Config.windowLength : Nat := 200

/-- The outage, in loop periods, that leads to LOOP_RESTART (R175). -/
def Config.outageLimit : Nat := 400

/-- The saturation bound of figures held to 32 bits (R48, R62). -/
def Config.max32 : Nat := 4294967295

end Sys2Proof
end

