-- ==== Sys2Proof/Machine/State.lean ====
section
/-! DEFINITION. The state of the part as plain data: every register, record, queue, counter, mode and pin
that spec/ gives it, with its value after reset. Fields that are the MODEL's own say so. -/

namespace Sys2Proof.Machine

/-! ### The weigher (chapter 1) -/

/-- The weigh table (R1). -/
structure WeighTable where
  zero : Int
  span : Nat
  deadband : Nat
  pulsePitch : Nat
  maxDelta : Nat
  beltLength : Nat
  zeroLimit : Nat
  transitDistance : Nat
  segmentLength : Nat
  gateClosedLimit : Nat
deriving DecidableEq, Repr

/-- The pulse tracker's state (R6). -/
inductive TrackerState | unarmed | tracking | lost
deriving DecidableEq, Repr

/-- The last outcome of a zero calibration (section 1.7). -/
inductive ZeroOutcome | none | zeroDone | zeroRejected | zeroAborted
deriving DecidableEq, Repr

/-- The zero calibration record (section 1.7). -/
structure ZeroCal where
  running : Bool
  loadTravelSum : Int
  travelSum : Nat
  outcome : ZeroOutcome
  proposed : Option Int
deriving DecidableEq, Repr

/-- The unassigned account (R12): three 32-bit wrapping figures in kilograms. -/
structure Account where
  weighed : Count32
  inTransit : Count32
  spill : Count32
deriving DecidableEq, Repr

/-- Everything the weigher holds (R1, R4 to R14). A table that is `none` is a clear loaded flag. -/
structure Weigher where
  table : Option WeighTable
  heldRaw : Int
  corrected : Nat
  overrange : Bool
  negDrift : Bool
  scaleLost : Bool
  tracker : TrackerState
  pulseRef : Half
  lastDelta : Nat
  implausible : Nat
  gap : Nat
  catchUp : Bool
  odometer : Count32
  residue : Nat
  account : Account
  tag : Option BillNo
  estimated : Bool
  zeroCal : ZeroCal
deriving DecidableEq, Repr

/-! ### The transit queue (chapter 2) -/

/-- A parcel's fields but for its close odometer (R23). -/
structure Parcel where
  lot : Option BillNo
  estimated : Bool
  mass : Nat
  openOdometer : Count32
deriving DecidableEq, Repr

/-- A closed parcel: its close odometer is present (R23). -/
structure ClosedParcel where
  parcel : Parcel
  closeOdometer : Count32
deriving DecidableEq, Repr

/-- The transit queue (R23): the closed parcels oldest first, then the one open parcel if there is one, and
the deferral record. -/
structure TransitQueue where
  closed : List ClosedParcel
  openParcel : Option Parcel
  closeDeferred : Bool
deriving DecidableEq, Repr

/-! ### The hold table (chapter 3) -/

/-- The vessel record (R43). -/
structure VesselRecord where
  baseMoment : Int
  aftLimit : Int
  forwardLimit : Int
  cargoLimit : Nat
  defaultDensity : Nat
  allowance : Nat
  tolerance : Nat
  topUpCap : Nat
  forePosition : Nat
  aftPosition : Nat
  coamingClearance : Nat
  highDropSlope : Nat
  highDropFloor : Nat
  tipRadius : Nat
deriving DecidableEq, Repr

/-- The static fields of a hold (R45). -/
structure HoldStatic where
  travelMin : Nat
  travelMax : Nat
  reachMin : Nat
  reachMax : Nat
  coaming : Nat
  depth : Nat
  area : Nat
  lever : Int
  heap : Nat
  minDrop : Nat
  maxDrop : Nat
  preload : Nat
deriving DecidableEq, Repr

/-- A present hold: its static fields, its reference position (R45), its dynamic fields (R48) and the heights
held with them (R53, R54). -/
structure HoldRecord where
  static : HoldStatic
  reference : Nat
  credited : Nat
  volume : Nat
  offset : Option Nat
  deckLevel : Int
  floor : Int
  coamingTop : Int
  fill : Nat
  surface : Int
deriving DecidableEq, Repr

/-- Everything the hold table holds (R43 to R58). A vessel record that is `none` is a clear loaded flag; a hold
that is `none` is not present. `foreSeen` and `aftSeen` are the MODEL's own: whether that ranger has
delivered a sample since the last POWER_ON or PART_RESET (R49). -/
structure HoldTable where
  vessel : Option VesselRecord
  holds : Vector (Option HoldRecord) 9
  fore : Int
  aft : Int
  foreSeen : Bool
  aftSeen : Bool
  established : Bool
  foreLost : Bool
  aftLost : Bool
  clearLevel : Option Int
  moment : Option Int
  cargo : Option Nat
deriving DecidableEq, Repr

/-! ### Stop reasons (chapter 7) and the plan (chapter 4) -/

/-- The stop reasons, in the order of R135. -/
inductive StopReason
  | mode | loop | loopQuality | plan | spout | deck
  | dust (z : ZoneNo)
  | pullCord | sway | hatch | weigh | zeroing | gateFeedback
deriving DecidableEq, Repr

/-- A set of stop reasons as its 18 bits (R199): MODE in bit 0, the others following in the order of R135. -/
structure ReasonSet where
  bits : BitVec 18
deriving DecidableEq, Repr

/-- A step's state (R62). -/
inductive StepState | pending | active | done | skipped
deriving DecidableEq, Repr

/-- A finished step's outcome (R62). -/
inductive StepOutcome | onTarget | short | over
deriving DecidableEq, Repr

/-- One step record (R62). -/
structure Step where
  hold : HoldNo
  bill : BillNo
  target : Nat
  breakFlag : Bool
  state : StepState
  credited : Nat
  topUps : Nat
  outcome : Option (StepOutcome × Int)
  resumeNeeded : Bool
  breakPassed : Bool
  kinds : ReasonSet
deriving DecidableEq, Repr

/-- The reason of BLOCKED (R64). -/
inductive BlockReason | trim | cargo
deriving DecidableEq, Repr

/-- The cause of STOPPING and DRAINING (R64). -/
inductive StopCause | target | held | trim | cargo
deriving DecidableEq, Repr

/-- The eight plan states (R64), each with what it holds: the drain mark stands only in DRAINING. -/
inductive PlanState
  | idle
  | blocked (reason : BlockReason)
  | waitSpout
  | waitProceed
  | pouring
  | interrupted
  | stopping (cause : StopCause)
  | draining (cause : StopCause) (mark : Count32)
deriving DecidableEq, Repr

/-- The pour plan (R62 to R64). `lastEnded` is the position of the last step that left ACTIVE as DONE or
SKIPPED, for the notice summary (R86). -/
structure Plan where
  steps : List Step
  state : PlanState
  lastEnded : Option Nat
deriving DecidableEq, Repr

/-! ### The spout supervisor (chapter 5) -/

/-- An axis table entry (R90). -/
structure AxisEntry where
  lower : Int
  upper : Int
  vmax : Nat
  margin : Nat
  gain : Nat
  maxStep : Nat
deriving DecidableEq, Repr

/-- A barrier with the distance to it and the allowed speed toward it (R103 to R106). -/
structure Barrier where
  position : Option Int
  distance : Nat
  speed : Nat
deriving DecidableEq, Repr

/-- What the supervisor holds for one axis (R90, R92, R103 to R106). -/
structure AxisRecord where
  entry : Option AxisEntry
  known : Bool
  accepted : Option Int
  positionGap : Nat
  implausible : Nat
  recovery : Nat
  runSample : Option Int
  runGap : Nat
  down : Barrier
  up : Barrier
deriving DecidableEq, Repr

/-- The spout position state (R96). -/
inductive SpoutPosition
  | unknown | stray | clear | over (h : HoldNo)
deriving DecidableEq, Repr

/-- The band (R98). -/
inductive Band | belowBand | inBand | aboveBand
deriving DecidableEq, Repr

/-- Everything the spout supervisor holds (R90 to R106). The two drop reductions are those the dust supervisor
has handed (R98, R130). -/
structure Spout where
  travel : AxisRecord
  reach : AxisRecord
  drop : AxisRecord
  position : SpoutPosition
  dropHeight : Option Int
  effectiveMax : Option Nat
  band : Option Band
  tipContact : Bool
  reductionTip : Nat
  reductionHatch : Nat
deriving DecidableEq, Repr

/-! ### The dust supervisor (chapter 6) -/

/-- The fields of an enabled zone record (R113). -/
structure ZoneRecord where
  warn : Nat
  high : Nat
  stop : Nat
  hysteresis : Nat
  rise : Nat
  fall : Nat
  highCap : Nat
  reduction : Nat
  purgeTime : Nat
  threshold : Nat
deriving DecidableEq, Repr

/-- The seven zone states (R116). -/
inductive ZoneState | clear | warn | high | stop | purge | latched | lost
deriving DecidableEq, Repr

/-- What one zone holds (R113, R116). A record in force that is `none` has its enable flag clear; a pending
record `some none` is a pending record with its enable flag clear. -/
structure Zone where
  record : Option ZoneRecord
  pendingRecord : Option (Option ZoneRecord)
  state : ZoneState
  latest : Option Nat
  warnCount : Nat
  highCount : Nat
  stopCount : Nat
  fallCount : Nat
  purgeTimer : Option Nat
  exposure : Nat
deriving DecidableEq, Repr

/-! ### The gate arbiter and contact scanner (chapter 7) -/

/-- What the gate arbiter holds (R135 to R138): the stop set, the caps, the last written opening and the gate
position. -/
structure Gate where
  stopSet : ReasonSet
  commandCap : Nat
  highCaps : Vector (Option Nat) 6
  dropCap : Option Nat
  topUpCap : Option Nat
  lastWritten : Nat
  position : Option Nat
  positionLost : Bool
deriving DecidableEq, Repr

/-- A contact input's role (R140). -/
inductive ContactRole
  | unused | pullCord | beltSway | tipContact
  | hatchOpen (h : HoldNo)
deriving DecidableEq, Repr

/-- One contact input (R140): `active` is its accepted state (false for an UNUSED input). -/
structure ContactInput where
  role : ContactRole
  activeLow : Bool
  active : Bool
  counter : Nat
  failSafeHold : Bool
deriving DecidableEq, Repr

/-- What the contact scanner holds (R140 to R145). `sampleTaken` says whether a sample's raw data have been taken since
the last restart, of any kind, as READ_GATE reports it (R139). -/
structure Contacts where
  inputs : Vector ContactInput 16
  debounce : Option Nat
  raw : Option Half
  sampleTaken : Bool
  lost : Bool
  latch : Bool
deriving DecidableEq, Repr

/-! ### The bill store (chapter 8) -/

/-- The fields of an OPEN or CLOSED bill (R152). -/
structure Lot where
  identifier : Count32
  commodity : Byte
  density : Nat
  weighed : Nat
  inTransit : Nat
  spill : Nat
  unresolved : Nat
  holds : List (HoldNo × Nat)
  totalizerAtOpen : Count32
  dustStops : Nat
  restarts : Nat
deriving DecidableEq, Repr

/-- A bill record in its three states (R152). -/
inductive BillRecord
  | free
  | opened (lot : Lot)
  | closed (lot : Lot) (totalizerAtClose : Count32)
deriving DecidableEq, Repr

/-- The retention outcome (R152). -/
inductive Retention | kept | cleared
deriving DecidableEq, Repr

/-- The bill store (R152), held in retained memory. -/
structure BillStore where
  records : Vector BillRecord 12
  totalizer : Count32
  retention : Retention
deriving DecidableEq, Repr

/-! ### The loop port (chapter 9) -/

/-- The loop state (R166). -/
inductive LoopState | down | seeking | proving | run
deriving DecidableEq, Repr

/-- A freshness record (R169). -/
structure Freshness where
  age : Nat
  lastT : Option Bool
  held : Option Half
deriving DecidableEq, Repr

/-- What a COMMAND entry holds beside its freshness record (R169). -/
structure CommandRecord where
  takenOver : Bool
  lastValue : Half
  lastWrittenT : Bool
deriving DecidableEq, Repr

/-- One entry of the slot map (R169). -/
inductive SlotEntry
  | unused
  | sample (b : SampleBinding) (limit : Nat) (fresh : Freshness)
  | command (b : CommandBinding) (limit : Nat) (fresh : Freshness) (cmd : CommandRecord)
deriving DecidableEq, Repr

/-- The state of a sample binding as the loop port hands it to its consumer (R3, R171). -/
inductive Handed
  | fresh (v : Half)
  | notFresh
  | newlyLost
  | lost
  | returned (v : Half)
deriving DecidableEq, Repr

/-- The MODEL's own: a frame taken in RUN whose loop-out frame has not been formed yet (R165 lets other events
come between). `blank1` and `blank2` are what the receiver decided of its characters (R180), `fresh` the
command bindings fresh in it (R173), `replyOk` whether a reply may be sent in it (R185). -/
structure WaitingFrame where
  frame : Frame
  good : Bool
  blank1 : Bool
  blank2 : Bool
  fresh : List CommandBinding
  replyOk : Bool
deriving DecidableEq, Repr

/-- Everything the loop port holds (R166 to R175, R178). The MODEL's own fields are `syncSeen` (a good sync
has arrived outside RUN since the last expiry of the timebase), `handed` (for each sample binding, the
states handed over and not yet taken by the consumer, oldest first), `toForm` (the frames waiting to be
formed, oldest first) and `loopOut` (what left on LOOP_OUT in the latest period: a frame or none). -/
structure LoopPort where
  state : LoopState
  provingCount : Nat
  missedCount : Nat
  windowPosition : Nat
  windowCount : Nat
  threshold : Nat
  timebaseLocked : Bool
  slots : Vector SlotEntry 40
  lostFlags : Vector Bool 15
  outage : Nat
  lastFrameCount : Byte
  syncSeen : Bool
  handed : Vector (List Handed) 15
  toForm : List WaitingFrame
  loopOut : Option Frame
deriving DecidableEq, Repr

/-! ### The service unit (chapter 10) -/

/-- A field of a reply or notice before its encoding (R199): a small field of at most 16 values, or a number of
so many characters. -/
inductive Field
  | small (v : Nat)
  | num (width : Nat) (v : Int)
deriving DecidableEq, Repr

/-- Event kinds of the WEIGH source (R21, R201). -/
inductive WeighEvent
  | overrange | negDrift | scaleLost | scaleReturned | pulsesLost | pulsesReturned
  | zeroDone | zeroRejected | zeroAborted | queueFull
deriving DecidableEq, Repr

/-- Event kinds of the PLAN source (R86). -/
inductive PlanEvent
  | activated | blocked | waitSpout | waitProceed | pouring | topUp | interrupted | stopping
  | draining | stepDone | stepSkipped | idle | restarted | misdirected
deriving DecidableEq, Repr

/-- Event kinds of the SPOUT source (R110); SURFACE_FOUND carries the hold and the measured offset. -/
inductive SpoutEvent
  | unknown | recovered | stray | surfaceFound (h : HoldNo) (offset : Nat)
deriving DecidableEq, Repr

/-- Event kinds of the BILL source (R161). -/
inductive BillEvent | opened | closed | released | spill
deriving DecidableEq, Repr

/-- Event kinds of the LOOP source (R177). -/
inductive LoopEvent
  | loopRun | loopLost | qualityLow | qualityOk
  | commandStale (b : CommandBinding) | commandResumed (b : CommandBinding)
  | outage
deriving DecidableEq, Repr

/-- Event kinds of the CONTACT source (R149); HATCH_CLOSED names the hold. -/
inductive ContactEvent
  | pullCord | latchCleared | swayOn | swayOff | hatchClosed (h : HoldNo)
  | contactsLost | contactsReturned | gateLost | gateReturned
deriving DecidableEq, Repr

/-- The twelve notice sources (R186). -/
inductive Source
  | dust (z : ZoneNo) | spout | plan | weigh | bill | loop | contact
deriving DecidableEq, Repr

/-- An event that a block raises a notice for. -/
inductive Event
  | dust (z : ZoneNo) (entered : ZoneState)
  | spout (e : SpoutEvent)
  | plan (e : PlanEvent)
  | weigh (e : WeighEvent)
  | bill (n : BillNo) (e : BillEvent)
  | loop (e : LoopEvent)
  | contact (e : ContactEvent)
deriving DecidableEq, Repr

/-- A notice (R186): the latest event of its source and the source's summary as it stood then. -/
structure Notice where
  event : Event
  summary : List Field
deriving DecidableEq, Repr

/-- Result codes, in the order of section 10.4 (R197). -/
inductive ResultCode
  | done | accepted | wrongMode | wrongState | badParam | busy | notFound | storeFull | duplicate
  | lotInTransit | lotPlanned | stepActive | trimLimit | mapIncomplete | position | gateOpen
  | sensorLost | levelHigh | contactActive | flowActive | unknownRequest
deriving DecidableEq, Repr

/-- A request in the request buffer (R183). -/
structure Request where
  code : Byte
  params : List Byte
deriving DecidableEq, Repr

/-- The receiver (R181): in RECEIVING it holds the length once it has arrived, the characters after it and the
damaged flag. -/
inductive Receiver
  | idle
  | receiving (length : Option Nat) (chars : List Byte) (damaged : Bool)
  | discarding
deriving DecidableEq, Repr

/-- A reply in the reply buffer (R184, R185): its characters and how many of them have been sent. -/
structure Reply where
  chars : List Byte
  sent : Nat
deriving DecidableEq, Repr

/-- What the service unit holds beside the notice queue (R180 to R185). -/
structure Service where
  station : BitVec 6
  receiver : Receiver
  request : Option Request
  reply : Option Reply
  overrun : Bool
deriving DecidableEq, Repr

/-! ### Modes, pins and the whole -/

/-- The mode (R190). -/
inductive Mode | setup | loading | suspended
deriving DecidableEq, Repr

/-- The restart kinds (R190). -/
inductive RestartKind | powerOn | partReset | loopRestart
deriving DecidableEq, Repr

/-- The operating modes' own state (R190, R194). -/
structure Modes where
  mode : Mode
  lastRestart : RestartKind
  partResetPending : Bool
deriving DecidableEq, Repr

/-- The input pins as they stand: PORST asserted, the SADDR straps, BKVALID as read at the last POWER_ON, and
the presence of the line signal at LOOP_IN. -/
structure Pins where
  porst : Bool
  straps : BitVec 6
  bkvalid : Bool
  lineSignal : Bool
deriving DecidableEq, Repr

/-- What can come about inside an event (the MODEL's own list, log 2): one for each row of the table that names
such a thing, and the raising of a notice (R186), which is forgotten as the event ends (log 33). -/
inductive Occurrence
  | provingComplete | runLost (loss : RunLoss) | windowEnd | qualityLow
  | bindingNewlyLost (b : SampleBinding) | takeover (b : CommandBinding) | replySent
  | pulsesImplausibleLost | pulseRearm | segmentClose | deferredClose | parcelDischarge
  | zeroComplete | spoutReadyPour | interruptionEnd | drainStart | drainComplete
  | axisUnknown (a : Axis) | axisRecovery (a : Axis)
  | dustRise (z : ZoneNo) | dustFall (z : ZoneNo) | dustStopFall (z : ZoneNo)
  | purgeExpiry (z : ZoneNo) | dustLatch (z : ZoneNo) | dustReturn (z : ZoneNo)
  | contactChange (i : InputNo) | partReset | loopRestart
  | noticeRaised (src : Source)
deriving DecidableEq, Repr

/-- The state of the part. `came` (what came about in the latest event, log 2), `freeCount` (how many free
values have been drawn, log 1) and `pending` (the queue of commands) are the MODEL's own. -/
structure State where
  weigher : Weigher
  queue : TransitQueue
  holds : HoldTable
  plan : Plan
  spout : Spout
  dust : Vector Zone 6
  gate : Gate
  contacts : Contacts
  bills : BillStore
  loop : LoopPort
  service : Service
  notices : List Notice
  modes : Modes
  pins : Pins
  came : List Occurrence
  freeCount : Nat
  pending : List Instr
deriving DecidableEq, Repr

/-- Faults. No command of this block stops it: the spec names a result code, a notice or no effect for every
case, so there is no constructor. -/
inductive Fault
deriving DecidableEq, Repr

/-- Refusals. -/
inductive Refusal
  /-- raised by an arm of `exec` whose command has no meaning in the model; safe: the run stops there. No arm
  raises it. -/
  | notModelled (mnemonic : String)
deriving DecidableEq, Repr

/-! ### Updates, one for each field -/

/-- The state with another weigher. -/
def State.setWeigher (s : State) (x : Weigher) : State := { s with weigher := x }
/-- The state with another transit queue. -/
def State.setQueue (s : State) (x : TransitQueue) : State := { s with queue := x }
/-- The state with another hold table. -/
def State.setHolds (s : State) (x : HoldTable) : State := { s with holds := x }
/-- The state with another plan. -/
def State.setPlan (s : State) (x : Plan) : State := { s with plan := x }
/-- The state with another spout supervisor. -/
def State.setSpout (s : State) (x : Spout) : State := { s with spout := x }
/-- The state with other dust zones. -/
def State.setDust (s : State) (x : Vector Zone 6) : State := { s with dust := x }
/-- The state with another gate arbiter. -/
def State.setGate (s : State) (x : Gate) : State := { s with gate := x }
/-- The state with another contact scanner. -/
def State.setContacts (s : State) (x : Contacts) : State := { s with contacts := x }
/-- The state with another bill store. -/
def State.setBills (s : State) (x : BillStore) : State := { s with bills := x }
/-- The state with another loop port. -/
def State.setLoop (s : State) (x : LoopPort) : State := { s with loop := x }
/-- The state with another service unit. -/
def State.setService (s : State) (x : Service) : State := { s with service := x }
/-- The state with another notice queue. -/
def State.setNotices (s : State) (x : List Notice) : State := { s with notices := x }
/-- The state with other modes. -/
def State.setModes (s : State) (x : Modes) : State := { s with modes := x }
/-- The state with other pins. -/
def State.setPins (s : State) (x : Pins) : State := { s with pins := x }
/-- The state with another list of what came about. -/
def State.setCame (s : State) (x : List Occurrence) : State := { s with came := x }
/-- The state with another count of free values drawn. -/
def State.setFreeCount (s : State) (x : Nat) : State := { s with freeCount := x }
/-- The state with another queue of commands. -/
def State.setPending (s : State) (x : List Instr) : State := { s with pending := x }

/-! ### Values after POWER_ON and PART_RESET -/

/-- The weigher's POWER_ON and PART_RESET values (R22). -/
def Weigher.restart : Weigher :=
  { table := none, heldRaw := 0, corrected := 0, overrange := false, negDrift := false,
    scaleLost := false, tracker := .unarmed, pulseRef := 0, lastDelta := 0, implausible := 0,
    gap := 0, catchUp := false, odometer := 0, residue := 0, account := ⟨0, 0, 0⟩, tag := none,
    estimated := false, zeroCal := ⟨false, 0, 0, .none, none⟩ }

/-- The transit queue's values (R41). -/
def TransitQueue.restart : TransitQueue := ⟨[], none, false⟩

/-- The hold table's values (R60). -/
def HoldTable.restart : HoldTable :=
  { vessel := none, holds := Vector.replicate 9 none, fore := 0, aft := 0, foreSeen := false,
    aftSeen := false, established := false, foreLost := false, aftLost := false,
    clearLevel := none, moment := none, cargo := none }

/-- The plan's values (R89). -/
def Plan.restart : Plan := ⟨[], .idle, none⟩

/-- A barrier while an axis has no accepted position: distance 0 (R105). -/
def Barrier.none : Barrier := ⟨Option.none, 0, 0⟩

/-- An axis's values (R111). -/
def AxisRecord.restart : AxisRecord :=
  { entry := none, known := false, accepted := none, positionGap := 0, implausible := 0,
    recovery := 0, runSample := none, runGap := 0, down := .none, up := .none }

/-- The spout supervisor's values (R111). -/
def Spout.restart : Spout :=
  { travel := .restart, reach := .restart, drop := .restart, position := .unknown,
    dropHeight := none, effectiveMax := none, band := none, tipContact := false,
    reductionTip := 0, reductionHatch := 0 }

/-- A zone's values (R133): disabled. -/
def Zone.restart : Zone :=
  { record := none, pendingRecord := none, state := .clear, latest := none, warnCount := 0,
    highCount := 0, stopCount := 0, fallCount := 0, purgeTimer := none, exposure := 0 }

/-- The stop set after POWER_ON and PART_RESET: MODE, LOOP, PLAN, SPOUT and DECK (R150). -/
def ReasonSet.restart : ReasonSet := ⟨0b111011#18⟩

/-- The gate arbiter's values (R150). -/
def Gate.restart : Gate :=
  { stopSet := .restart, commandCap := 0, highCaps := Vector.replicate 6 none, dropCap := none,
    topUpCap := none, lastWritten := 0, position := none, positionLost := false }

/-- An UNUSED input (R150). Its polarity has no stated reset value: ACTIVE_HIGH (DESIGN CHOICE, log 3). -/
def ContactInput.restart : ContactInput := ⟨.unused, false, false, 0, false⟩

/-- The contact scanner's values (R150). -/
def Contacts.restart : Contacts :=
  { inputs := Vector.replicate 16 .restart, debounce := none, raw := none, sampleTaken := false,
    lost := false, latch := false }

/-- The bill store cleared (R162). -/
def BillStore.cleared : BillStore := ⟨Vector.replicate 12 .free, 0, .cleared⟩

/-- The loop port's values (R178). -/
def LoopPort.restart : LoopPort :=
  { state := .down, provingCount := 0, missedCount := 0, windowPosition := 0, windowCount := 0,
    threshold := 20, timebaseLocked := false, slots := Vector.replicate 40 .unused,
    lostFlags := Vector.replicate 15 false, outage := 0, lastFrameCount := 0, syncSeen := false,
    handed := Vector.replicate 15 [], toForm := [], loopOut := none }

/-- The service unit's values (R189), with the station address as the straps give it. -/
def Service.restart (straps : BitVec 6) : Service := ⟨straps, .idle, none, none, false⟩

/-- The whole part right after a POWER_ON or PART_RESET that read these straps and left this bill store (R194). -/
def State.restart (kind : RestartKind) (straps : BitVec 6) (bills : BillStore) : State :=
  { weigher := .restart, queue := .restart, holds := .restart, plan := .restart,
    spout := .restart, dust := Vector.replicate 6 .restart, gate := .restart,
    contacts := .restart, bills := bills, loop := .restart, service := .restart straps,
    notices := [], modes := ⟨.setup, kind, false⟩, pins := ⟨false, straps, false, false⟩,
    came := [], freeCount := 0, pending := [] }

/-- The station address the model's straps give at reset (DESIGN CHOICE, log 3): the spec's worked example has 17. -/
def resetStraps : BitVec 6 := 17

/-- Right after reset: POWER_ON with BKVALID not asserted (DESIGN CHOICE, log 3). -/
def State.reset : State := State.restart .powerOn resetStraps .cleared

end Sys2Proof.Machine
end

