-- ==== Sys2Proof/Machine/Arith.lean ====
section
/-! DEFINITION. The roundings, saturations and wrap-aware differences of 00_scope.md (Conventions). -/

namespace Sys2Proof.Machine

/-- Rounded up: the quotient toward plus infinity, whichever sign numerator and denominator have. -/
def divUp (n d : Int) : Int :=
  if 0 ≤ d then -((-n) / d) else -(n / (-d))

/-- Rounded up, for unsigned values. -/
def divUpNat (n d : Nat) : Nat := (n + d - 1) / d

/-- Rounded to nearest, ties away from zero; the divisor is positive. -/
def divNearest (n : Int) (d : Nat) : Int :=
  if 0 ≤ n then (2 * n + d) / (2 * d) else -((2 * (-n) + d) / (2 * d))

/-- Saturated to a range. -/
def saturate (lo hi x : Int) : Int := max lo (min hi x)

/-- An increase saturating at a bound. -/
def satAdd (bound a k : Nat) : Nat := min bound (a + k)

/-- The wrap-aware difference of two belt odometer values (Conventions, R9). -/
def wrapDiff (later earlier : Count32) : Nat := (later - earlier).toNat

/-- The wrap-aware difference of two pulse counts (R7). -/
def pulseDiff (later earlier : Half) : Nat := (later - earlier).toNat

/-- The number lies in a range, bounds included. -/
def within (lo hi x : Int) : Bool := decide (lo ≤ x ∧ x ≤ hi)

/-- A kilogram figure as a 32-bit wrapping count. -/
def toCount (k : Nat) : Count32 := BitVec.ofNat 32 k

end Sys2Proof.Machine
end

