-- ==== Sys2Proof/Machine/Flags.lean ====
section
/-! DEFINITION. The stop set's bits, the status character and the numbers of the enumerations (R135, R197, R199). -/

namespace Sys2Proof.Machine

/-- A reason's bit in the stop set (R135 order, R199). -/
def StopReason.bit : StopReason → Nat
  | .mode => 0 | .loop => 1 | .loopQuality => 2 | .plan => 3 | .spout => 4 | .deck => 5
  | .dust z => 6 + z.val
  | .pullCord => 12 | .sway => 13 | .hatch => 14 | .weigh => 15 | .zeroing => 16
  | .gateFeedback => 17

/-- The set with no reason. -/
def ReasonSet.empty : ReasonSet := ⟨0⟩

/-- The reason is in the set. -/
def ReasonSet.has (s : ReasonSet) (r : StopReason) : Bool := s.bits.getLsbD r.bit

/-- The set with the reason. -/
def ReasonSet.add (s : ReasonSet) (r : StopReason) : ReasonSet :=
  ⟨s.bits ||| BitVec.twoPow 18 r.bit⟩

/-- The set without the reason. -/
def ReasonSet.remove (s : ReasonSet) (r : StopReason) : ReasonSet :=
  ⟨s.bits &&& ~~~ BitVec.twoPow 18 r.bit⟩

/-- The set holds no reason. -/
def ReasonSet.isEmpty (s : ReasonSet) : Bool := s.bits == 0

/-- The reasons of the set other than PLAN (R74, R75). -/
def ReasonSet.others (s : ReasonSet) : ReasonSet := s.remove .plan

/-- The set with SPOUT alone (R75). -/
def ReasonSet.spoutAlone : ReasonSet := ReasonSet.empty.add .spout

/-- The reason is one of DUST_1 to DUST_6. -/
def StopReason.isDust : StopReason → Bool
  | .dust _ => true
  | _ => false

/-- The set holds a DUST reason (R74): bits 6 to 11. -/
def ReasonSet.hasDust (s : ReasonSet) : Bool := s.bits &&& 0b111111000000#18 != 0

/-- A flag's value in a field (R199). -/
def bit (b : Bool) : Nat := if b then 1 else 0

/-- Result codes are numbered in the order of section 10.4 (R197). -/
def ResultCode.number : ResultCode → Nat
  | .done => 0 | .accepted => 1 | .wrongMode => 2 | .wrongState => 3 | .badParam => 4 | .busy => 5
  | .notFound => 6 | .storeFull => 7 | .duplicate => 8 | .lotInTransit => 9 | .lotPlanned => 10
  | .stepActive => 11 | .trimLimit => 12 | .mapIncomplete => 13 | .position => 14 | .gateOpen => 15
  | .sensorLost => 16 | .levelHigh => 17 | .contactActive => 18 | .flowActive => 19
  | .unknownRequest => 20

/-- The status character (R197): the result code in bits 4 to 0, OVERRUN in bit 6, ATTENTION in bit 7. -/
def statusChar (c : ResultCode) (overrun attention : Bool) : Byte :=
  BitVec.ofNat 8 (c.number + 64 * bit overrun + 128 * bit attention)

/-- The mode's number (R199). -/
def Mode.number : Mode → Nat
  | .setup => 0 | .loading => 1 | .suspended => 2

/-- The restart kind's number (R190 order). -/
def RestartKind.number : RestartKind → Nat
  | .powerOn => 0 | .partReset => 1 | .loopRestart => 2

/-- The tracker state's number (R6 order). -/
def TrackerState.number : TrackerState → Nat
  | .unarmed => 0 | .tracking => 1 | .lost => 2

/-- The outcome's number (section 1.7 order). -/
def ZeroOutcome.number : ZeroOutcome → Nat
  | .none => 0 | .zeroDone => 1 | .zeroRejected => 2 | .zeroAborted => 3

/-- The plan state's number (R64 order). -/
def PlanState.number : PlanState → Nat
  | .idle => 0 | .blocked _ => 1 | .waitSpout => 2 | .waitProceed => 3 | .pouring => 4
  | .interrupted => 5 | .stopping _ => 6 | .draining _ _ => 7

/-- The number of a STOPPING or DRAINING cause (R64 order). -/
def StopCause.number : StopCause → Nat
  | .target => 0 | .held => 1 | .trim => 2 | .cargo => 3

/-- The number of a BLOCKED reason (R64 order). -/
def BlockReason.number : BlockReason → Nat
  | .trim => 0 | .cargo => 1

/-- The step state's number (R62 order). -/
def StepState.number : StepState → Nat
  | .pending => 0 | .active => 1 | .done => 2 | .skipped => 3

/-- The step outcome's number (R62 order). -/
def StepOutcome.number : StepOutcome → Nat
  | .onTarget => 0 | .short => 1 | .over => 2

/-- The spout position state's number (R96 order). -/
def SpoutPosition.number : SpoutPosition → Nat
  | .unknown => 0 | .stray => 1 | .clear => 2 | .over _ => 3

/-- The band's number (R199). -/
def Band.number : Band → Nat
  | .belowBand => 0 | .inBand => 1 | .aboveBand => 2

/-- The zone state's number (R116 order). -/
def ZoneState.number : ZoneState → Nat
  | .clear => 0 | .warn => 1 | .high => 2 | .stop => 3 | .purge => 4 | .latched => 5 | .lost => 6

/-- The contact role's number (R140 order). -/
def ContactRole.number : ContactRole → Nat
  | .unused => 0 | .pullCord => 1 | .beltSway => 2 | .tipContact => 3 | .hatchOpen _ => 4

/-- The loop state's number (R166 order). -/
def LoopState.number : LoopState → Nat
  | .down => 0 | .seeking => 1 | .proving => 2 | .run => 3

/-- The bill state's number (R202). -/
def BillRecord.number : BillRecord → Nat
  | .free => 0 | .opened _ => 1 | .closed _ _ => 2

/-- The retention outcome's number (R202). -/
def Retention.number : Retention → Nat
  | .kept => 0 | .cleared => 1

/-- A sample binding's place in the order of R169, from 0. -/
def sampleIndex : SampleBinding → Fin 15
  | .scaleLoad => 0 | .beltPulses => 1 | .travelPos => 2 | .reachPos => 3 | .dropPos => 4
  | .deckFore => 5 | .deckAft => 6
  | .dust z => ⟨7 + z.val, by omega⟩
  | .contacts => 13 | .gatePos => 14

/-- The sample bindings in the order of R169. -/
def sampleBindings : List SampleBinding :=
  [.scaleLoad, .beltPulses, .travelPos, .reachPos, .dropPos, .deckFore, .deckAft,
   .dust 0, .dust 1, .dust 2, .dust 3, .dust 4, .dust 5, .contacts, .gatePos]

/-- The command bindings in the order of R169. -/
def commandBindings : List CommandBinding := [.travelCmd, .reachCmd, .dropCmd, .gateCmd]

/-- A command binding's place in the order of R169, from 0. -/
def commandIndex : CommandBinding → Nat
  | .travelCmd => 0 | .reachCmd => 1 | .dropCmd => 2 | .gateCmd => 3

/-- The number by which a sample binding is sent alone, 1 to 15 (R199). -/
def sampleNumber (b : SampleBinding) : Nat := (sampleIndex b).val + 1

/-- The number by which a command binding is sent alone, 16 to 19 (R199). -/
def commandNumber (b : CommandBinding) : Nat := commandIndex b + 16

/-- The source of an event's notice (R186). -/
def Event.source : Event → Source
  | .dust z _ => .dust z
  | .spout _ => .spout
  | .plan _ => .plan
  | .weigh _ => .weigh
  | .bill _ _ => .bill
  | .loop _ => .loop
  | .contact _ => .contact

/-- The number of a source in a POLL_NOTICE reply (R201). -/
def Source.number : Source → Nat
  | .dust z => 1 + z.val
  | .spout => 7 | .plan => 8 | .weigh => 9 | .bill => 10 | .loop => 11 | .contact => 12

/-- The number of an event kind: from 1 in the order of the source's event table (R201). -/
def Event.number : Event → Nat
  | .dust _ st => st.number + 1
  | .spout e => match e with
    | .unknown => 1 | .recovered => 2 | .stray => 3 | .surfaceFound _ _ => 4
  | .plan e => match e with
    | .activated => 1 | .blocked => 2 | .waitSpout => 3 | .waitProceed => 4 | .pouring => 5
    | .topUp => 6 | .interrupted => 7 | .stopping => 8 | .draining => 9 | .stepDone => 10
    | .stepSkipped => 11 | .idle => 12 | .restarted => 13 | .misdirected => 14
  | .weigh e => match e with
    | .overrange => 1 | .negDrift => 2 | .scaleLost => 3 | .scaleReturned => 4 | .pulsesLost => 5
    | .pulsesReturned => 6 | .zeroDone => 7 | .zeroRejected => 8 | .zeroAborted => 9
    | .queueFull => 10
  | .bill _ e => match e with
    | .opened => 1 | .closed => 2 | .released => 3 | .spill => 4
  | .loop e => match e with
    | .loopRun => 1 | .loopLost => 2 | .qualityLow => 3 | .qualityOk => 4 | .commandStale _ => 5
    | .commandResumed _ => 6 | .outage => 7
  | .contact e => match e with
    | .pullCord => 1 | .latchCleared => 2 | .swayOn => 3 | .swayOff => 4 | .hatchClosed _ => 5
    | .contactsLost => 6 | .contactsReturned => 7 | .gateLost => 8 | .gateReturned => 9

end Sys2Proof.Machine
end

