-- ==== Sys2Proof/Machine/Operands.lean ====
section
/-! DEFINITION. The encoding of fields (R199, R200): the parameters a request carries, and the data of replies
and notices; the bits of a frame and its check (R165, R196). -/

namespace Sys2Proof.Machine

/-! ### Writing fields -/

/-- The characters of a number, most significant first, in two's complement (R196, R199). -/
def charsOf : Nat → Int → List Byte
  | 0, _ => []
  | w + 1, v => BitVec.ofInt 8 (v / (256 ^ w : Nat)) :: charsOf w v

/-- The characters of consecutive fields (R199): small fields two to a character, the first in the upper four
bits; a small field followed by none takes the upper four bits of a character of its own. -/
def encodeFields : List Field → List Byte
  | [] => []
  | .small a :: .small b :: rest => BitVec.ofNat 8 (16 * (a % 16) + b % 16) :: encodeFields rest
  | .small a :: rest => BitVec.ofNat 8 (16 * (a % 16)) :: encodeFields rest
  | .num w v :: rest => charsOf w v ++ encodeFields rest

/-- A flag as a field. -/
def Field.flag (b : Bool) : Field := .small (bit b)

/-- An unsigned field that may be absent: all ones when absent (R199). -/
def Field.optNat (width : Nat) (v : Option Nat) : Field :=
  .num width (v.elim (-1) (fun n => (n : Int)))

/-- A signed field that may be absent: the most negative value when absent (R199). -/
def Field.optInt (width : Nat) (v : Option Int) : Field :=
  .num width (v.getD (-(128 * 256 ^ (width - 1) : Nat)))

/-- A small field that may be absent: all ones when absent (R199). -/
def Field.optSmall (v : Option Nat) : Field := .small (v.getD 15)

/-- A height, sent in 2 characters, saturated to −32,767 to +32,767 (R200). -/
def Field.height (v : Int) : Field := .num 2 (saturate (-32767) 32767 v)

/-- A height that may be absent (R200): −32,768 means absent. -/
def Field.optHeight (v : Option Int) : Field :=
  .num 2 (v.elim (-32768) (saturate (-32767) 32767))

/-- A bill number, NONE as 0 (R199). -/
def Field.lot (n : Option BillNo) : Field := .small (n.elim 0 (·.val + 1))

/-- A set of stop reasons as 3 characters (R199). -/
def Field.reasons (s : ReasonSet) : Field := .num 3 s.bits.toNat

/-! ### Reading parameters -/

/-- How one parameter is encoded: a small field, or a number of so many characters, unsigned or signed. -/
inductive ParamKind
  | small
  | unsigned (width : Nat)
  | signed (width : Nat)
deriving DecidableEq, Repr

/-- The unsigned number of a run of characters, most significant first. -/
def natOfChars (cs : List Byte) : Nat := cs.foldl (fun n c => 256 * n + c.toNat) 0

/-- The signed number of a run of characters, in two's complement. -/
def intOfChars (cs : List Byte) : Int :=
  let n := natOfChars cs
  let m := 256 ^ cs.length
  if 2 * n < m then (n : Int) else (n : Int) - (m : Int)

/-- The values of a request's parameters (R199), small fields sharing characters as `encodeFields` writes them.
Characters beyond the list are read as 0; the count is checked before (R183). -/
def readParams : List ParamKind → List Byte → List Int
  | [], _ => []
  | .small :: .small :: ks, cs =>
    let c := (cs.headD 0).toNat
    ((c / 16 : Nat) : Int) :: ((c % 16 : Nat) : Int) :: readParams ks cs.tail
  | .small :: ks, cs => (((cs.headD 0).toNat / 16 : Nat) : Int) :: readParams ks cs.tail
  | .unsigned w :: ks, cs => (natOfChars (cs.take w) : Int) :: readParams ks (cs.drop w)
  | .signed w :: ks, cs => intOfChars (cs.take w) :: readParams ks (cs.drop w)

/-- The value of one parameter of a read list, 0 beyond its end. -/
def param (vs : List Int) (i : Nat) : Int := vs.getD i 0

/-- The value of one unsigned parameter. -/
def paramNat (vs : List Int) (i : Nat) : Nat := (param vs i).toNat

/-- A number 1 to n as an index from 0. -/
def numbered (n : Nat) (v : Nat) : Option (Fin n) :=
  if h : 1 ≤ v ∧ v ≤ n then some ⟨v - 1, by omega⟩ else none

/-- A number 0 to n − 1 as an index. -/
def indexed (n : Nat) (v : Nat) : Option (Fin n) :=
  if h : v < n then some ⟨v, h⟩ else none

/-! ### Frames -/

/-- The bits of a word, most significant first (R196). -/
def bitsOf {w : Nat} (x : BitVec w) : List Bool := (List.range w).map (fun i => x.getMsbD i)

/-- The bits of one slot (R196): V, T, data. -/
def slotBits (x : Slot) : List Bool := x.v :: x.t :: bitsOf x.data

/-- The bits of one service character (R196): S, P, data. -/
def charBits (c : ServiceChar) : List Bool := c.s :: c.p :: bitsOf c.data

/-- The 749 bits the frame check is formed over, in the order sent (R196). -/
def checkedBits (f : Frame) : List Bool :=
  bitsOf f.frameCount ++ f.attention :: (f.slots.toList.flatMap slotBits ++
    (charBits f.char1 ++ charBits f.char2))

/-- The 781 bits of a frame, in the order sent (R196). -/
def frameBits (f : Frame) : List Bool := bitsOf f.sync ++ (checkedBits f ++ bitsOf f.check)

/-- One shift of the check register under x¹⁶ + x¹² + x⁵ + 1 (R165, R196). -/
def checkShift (r : Nat) (b : Bool) : Nat :=
  let shifted := 2 * r % 65536
  if decide (32768 ≤ r) != b then shifted ^^^ 0x1021 else shifted

/-- The check register after a run of bits. The two cases of the register are one: they make the kernel
evaluate it at each bit. -/
def checkRun : Nat → List Bool → Nat
  | r, [] => r
  | 0, b :: bs => checkRun (checkShift 0 b) bs
  | r + 1, b :: bs => checkRun (checkShift (r + 1) b) bs

/-- The frame check over a frame (R196): the register starts at all ones and is sent as it stands. -/
def frameCheck (f : Frame) : Half := BitVec.ofNat 16 (checkRun 65535 (checkedBits f))

/-- The check of an arriving frame is good (R165). -/
def checkGood (f : Frame) : Bool := f.check == frameCheck f

/-- A frame with its check computed anew (R172). -/
def withCheck (f : Frame) : Frame := { f with check := frameCheck f }

end Sys2Proof.Machine
end

