-- ==== Sys2Proof/Machine/Ops.lean ====
section
/-! DEFINITION. The operations every block shares: notices and their summaries, what came about, free values, the
hand-over of samples, the active step, and the reply to a request. -/

namespace Sys2Proof.Machine

/-! ### The model's own counters -/

/-- Begins an event: nothing has come about in it yet (log 2). -/
def State.begin (s : State) : State := s.setCame []

/-- Something named by a row of the table has come about in the event (log 2). -/
def State.note (s : State) (o : Occurrence) : State := s.setCame (o :: s.came)

/-- Draws a free value (log 1): the value and the state with the counter advanced. -/
def State.draw (s : State) : BitVec 32 × State :=
  (Config.freeValue s.freeCount, s.setFreeCount (s.freeCount + 1))

/-! ### The slot map (R169) -/

/-- The binding of a slot entry that samples. -/
def SlotEntry.sampleBinding : SlotEntry → Option SampleBinding
  | .sample b _ _ => some b
  | _ => none

/-- The binding of a slot entry that commands. -/
def SlotEntry.commandBinding : SlotEntry → Option CommandBinding
  | .command b _ _ _ => some b
  | _ => none

/-- The slot in which a sample binding stands, if any (R169). -/
def LoopPort.slotOf (l : LoopPort) (b : SampleBinding) : Option SlotNo :=
  (List.finRange 40).find? (fun i => (l.slots.get i).sampleBinding == some b)

/-- The slot in which a command binding stands, if any (R169). -/
def LoopPort.commandSlotOf (l : LoopPort) (b : CommandBinding) : Option SlotNo :=
  (List.finRange 40).find? (fun i => (l.slots.get i).commandBinding == some b)

/-- The sample binding stands in the slot map. -/
def LoopPort.maps (l : LoopPort) (b : SampleBinding) : Bool := (l.slotOf b).isSome

/-- The command binding stands in the slot map. -/
def LoopPort.mapsCommand (l : LoopPort) (b : CommandBinding) : Bool := (l.commandSlotOf b).isSome

/-- The LOST flag of a sample binding (R169). -/
def LoopPort.isLost (l : LoopPort) (b : SampleBinding) : Bool := l.lostFlags.get (sampleIndex b)

/-- A command binding is taken over (R173). -/
def LoopPort.isTakenOver (l : LoopPort) (b : CommandBinding) : Bool :=
  (List.finRange 40).any fun i => match l.slots.get i with
    | .command c _ _ cmd => decide (c = b) && cmd.takenOver
    | _ => false

/-! ### The hand-over of samples (R171) -/

/-- The states handed over for a binding and not yet taken, oldest first. -/
def State.waitingFor (s : State) (b : SampleBinding) : List Handed := s.loop.handed.get (sampleIndex b)

/-- Hands a binding's state to its consumer: it waits until the consumer's event takes it. -/
def LoopPort.hand (l : LoopPort) (b : SampleBinding) (h : Handed) : LoopPort :=
  { l with handed := l.handed.set (sampleIndex b) (l.handed.get (sampleIndex b) ++ [h]) }

/-- The consumer takes the oldest state waiting for a binding. -/
def State.taken (s : State) (b : SampleBinding) : State :=
  s.setLoop { s.loop with handed := s.loop.handed.set (sampleIndex b) (s.waitingFor b).tail }

/-- The value a handed state carries: a fresh or a returned sample (R171). -/
def Handed.value : Handed → Option Half
  | .fresh v => some v
  | .returned v => some v
  | _ => none

/-! ### The plan's active step (R63) -/

/-- The active step, if any. -/
def Plan.active (p : Plan) : Option Step := p.steps.find? (fun st => st.state = .active)

/-- The active step's position, if any. -/
def Plan.activePosition (p : Plan) : Option Nat := p.steps.findIdx? (fun st => st.state = .active)

/-- The plan with its active step changed. -/
def Plan.modifyActive (p : Plan) (f : Step → Step) : Plan :=
  { p with steps := p.steps.map (fun st => if st.state = .active then f st else st) }

/-- A PENDING step of the plan satisfies a condition. -/
def Plan.anyPending (p : Plan) (c : Step → Bool) : Bool :=
  p.steps.any (fun st => decide (st.state = .pending) && c st)

/-! ### The records of a bill -/

/-- The lot of a record that is not FREE. -/
def BillRecord.lot? : BillRecord → Option Lot
  | .free => none
  | .opened l => some l
  | .closed l _ => some l

/-- The in-transit figure of a record, 0 for a FREE one (R40). -/
def BillRecord.inTransit (r : BillRecord) : Nat := r.lot?.elim 0 (·.inTransit)

/-- The number of FREE records. -/
def BillStore.freeRecords (b : BillStore) : Nat := b.records.toList.countP (· = .free)

/-! ### Summaries (R21, R86, R110, R131, R149, R161, R177) -/

/-- The WEIGH summary (R21). -/
def weighSummary (s : State) : List Field :=
  [.flag s.weigher.overrange, .flag s.weigher.negDrift, .flag s.weigher.scaleLost,
   .small s.weigher.tracker.number, .flag s.weigher.zeroCal.running, .flag s.weigher.estimated]

/-- The plan state with its reason or cause (R64, R86): the qualifier is left out where there is none (R200,
log 4). -/
def planStateFields : PlanState → List Field
  | .blocked r => [.small 1, .small r.number]
  | .stopping c => [.small 6, .small c.number]
  | .draining c _ => [.small 7, .small c.number]
  | p => [.small p.number]

/-- The PLAN summary (R86). Without an ACTIVE step one FFh stands for its fields, and so for the last ended step
(DESIGN CHOICE, log 4). -/
def planSummary (s : State) : List Field :=
  planStateFields s.plan.state
  ++ (match s.plan.activePosition, s.plan.active with
      | some i, some st => [.num 1 i, .num 4 st.target, .num 4 st.credited, .small st.topUps]
      | _, _ => [.num 1 255])
  ++ (match s.plan.lastEnded with
      | some i => .num 1 i :: (match (s.plan.steps[i]?).bind (·.outcome) with
          | some (o, d) => [.small o.number, .num 5 d]
          | none => [])
      | none => [.num 1 255])

/-- The spout position state with the hold for OVER (R96, R109, R110). -/
def positionFields : SpoutPosition → List Field
  | .over h => [.small 3, .small (h.val + 1)]
  | p => [.small p.number]

/-- The SPOUT summary (R110). -/
def spoutSummary (s : State) : List Field :=
  [.flag (!s.spout.travel.known), .flag (!s.spout.reach.known), .flag (!s.spout.drop.known)]
  ++ positionFields s.spout.position
  ++ [.optSmall (s.spout.band.map (·.number)), .flag s.spout.tipContact,
      .flag (s.gate.stopSet.has .spout)]

/-- A zone's summary (R131). -/
def zoneSummary (z : Zone) : List Field :=
  [.flag z.record.isSome, .small z.state.number, .optNat 3 z.latest, .num 2 z.exposure,
   .optNat 2 z.purgeTimer]

/-- The CONTACT summary (R149). -/
def contactSummary (s : State) : List Field :=
  .flag s.contacts.latch :: (s.contacts.inputs.toList.map (fun i => .flag i.active)
    ++ [.flag s.contacts.lost, .flag s.gate.positionLost, .num 2 s.gate.lastWritten])

/-- The BILL summary for one bill: the fields of R161, in the 30 characters of R201, which leave no room for the commodity
that R152 names (DEDUCED, log 38). -/
def billSummary (s : State) (n : BillNo) : List Field :=
  let r := s.bills.records.get n
  .small r.number :: ((match r.lot? with
    | some l => [.num 4 l.identifier.toNat, .num 6 l.weighed, .num 6 l.inTransit, .num 6 l.spill,
        .num 6 l.unresolved]
    | none => []) ++ [.small s.bills.freeRecords])

/-- A set of flags as a number, the first in bit 0. -/
def flagsNat : List Bool → Nat
  | [] => 0
  | b :: bs => bit b + 2 * flagsNat bs

/-- The LOOP summary (R177). -/
def loopSummary (s : State) : List Field :=
  [.small s.loop.state.number, .flag (s.gate.stopSet.has .loopQuality), .num 1 s.loop.windowCount,
   .num 2 (flagsNat (sampleBindings.map s.loop.isLost)),
   .small (flagsNat (commandBindings.map s.loop.isTakenOver))]

/-- The fields that stand at the end of a summary for one event kind only (R201). -/
def eventFields : Event → List Field
  | .spout (.surfaceFound h o) => [.small (h.val + 1), .num 2 o]
  | .loop (.commandStale b) => [.num 1 (commandNumber b)]
  | .loop (.commandResumed b) => [.num 1 (commandNumber b)]
  | .contact (.hatchClosed h) => [.small (h.val + 1)]
  | _ => []

/-- The summary a source defines, as it stands when the event is raised (R186). -/
def State.summary (s : State) (e : Event) : List Field :=
  (match e with
   | .dust z _ => zoneSummary (s.dust.get z)
   | .spout _ => spoutSummary s
   | .plan _ => planSummary s
   | .weigh _ => weighSummary s
   | .bill n _ => billSummary s n
   | .loop _ => loopSummary s
   | .contact _ => contactSummary s) ++ eventFields e

/-- Puts a notice in the queue (R186): in place of its source's queued notice, or at the tail. -/
def postNotice (n : Notice) (q : List Notice) : List Notice :=
  if q.any (fun m => decide (m.event.source = n.event.source)) then
    q.map (fun m => if m.event.source = n.event.source then n else m)
  else q ++ [n]

/-- A block raises a notice (R186). -/
def State.raiseNotice (s : State) (e : Event) : State :=
  (s.setNotices (postNotice ⟨e, s.summary e⟩ s.notices)).note (.noticeRaised e.source)

/-- A zone's notice with the summary of the zone as it stood at that entry (R131). -/
def State.raiseZoneNotice (s : State) (z : ZoneNo) (entered : ZoneState) (zone : Zone) : State :=
  (s.setNotices (postNotice ⟨.dust z entered, zoneSummary zone⟩ s.notices)).note (.noticeRaised (.dust z))

/-! ### The end of an event (R186) -/

/-- The occurrence is still known after its event: all are but the raising of a notice. -/
def Occurrence.lasting : Occurrence → Bool
  | .noticeRaised _ => false
  | _ => true

/-- A source has raised several notices in the event under way. -/
def State.raisedSeveral (s : State) (src : Source) : Bool :=
  decide (2 ≤ s.came.count (.noticeRaised src))

/-- A notice as the event leaves it (R186): of a source that has raised several in it, with the summary that stands
now. -/
def State.resummed (s : State) (n : Notice) : Notice :=
  if s.raisedSeveral n.event.source then { n with summary := s.summary n.event } else n

/-- The event ends: a source that raised several notices in it leaves the last of them with the summary as the event
left it (R186), and what was raised is forgotten. -/
def State.finish (s : State) : State :=
  (s.setNotices (s.notices.map s.resummed)).setCame (s.came.filter (·.lasting))

/-- One whole event: it begins, does its work and ends. -/
def State.event (s : State) (f : State → State) : State := (f s.begin).finish

/-! ### Requests and replies (R183, R184) -/

/-- What a block answers to a request: the result code and the data. -/
structure Answer where
  code : ResultCode
  data : List Field := []
deriving DecidableEq, Repr

/-- A refusal with a code: the request changes nothing. -/
def refuse (c : ResultCode) (s : State) : State × Answer := (s, ⟨c, []⟩)

/-- An acceptance whose work is finished. -/
def done (s : State) (data : List Field := []) : State × Answer := (s, ⟨.done, data⟩)

/-- The characters of a reply (R184, R197): address 0, length, code echoed, status, data. -/
def replyChars (code : Byte) (status : Byte) (data : List Byte) : List Byte :=
  0 :: BitVec.ofNat 8 (2 + data.length) :: code :: status :: data

/-- Forms the reply (R184): OVERRUN is reported and cleared, ATTENTION is set if a notice waits after the request
has acted, and the request leaves the request buffer. -/
def State.formReply (s : State) (code : Byte) (p : List Byte) (a : Answer) : State :=
  s.setService { s.service with
    request := if s.service.request = some ⟨code, p⟩ then none else s.service.request,
    overrun := false,
    reply := some ⟨replyChars code (statusChar a.code s.service.overrun (!s.notices.isEmpty))
      (encodeFields a.data), 0⟩ }

/-- The request discarded for overrun (R183): the OVERRUN flag is set and no block is reached. -/
def State.overrunRequest (s : State) : State := s.setService { s.service with overrun := true }

/-- A complete request is judged (R183): a reply not yet fully sent discards it for overrun, but a request that
entered the request buffer waits there (log 5); a wrong number of parameter characters is refused with
BAD_PARAM; otherwise its block acts and the reply is formed in the same event. A request given while another one stands
in the request buffer, no reply being in the reply buffer, is judged at once, and the buffered one waits (DESIGN CHOICE,
log 5). -/
def State.serve (s : State) (code : Byte) (count : Nat) (p : List Byte)
    (act : State → State × Answer) : State :=
  if s.service.reply.isSome then
    if s.service.request = some ⟨code, p⟩ then s else s.overrunRequest
  else if p.length ≠ count then s.formReply code p ⟨.badParam, []⟩
  else
    let r := act s
    r.1.formReply code p r.2

/-! ### The shape of every command's meaning -/

/-- While PORST is asserted the part takes nothing (R194); otherwise the event is taken. -/
def State.take (s : State) (f : State → State) : Host.Outcome State Fault Refusal :=
  .next (if s.pins.porst then s else s.event f)

/-- A row that names what comes about inside an event (log 2): the event is taken if that comes about in it; if
it does not, the row's event does not occur and nothing changes. -/
def State.takeIf (s : State) (o : Occurrence) (f : State → State) : Host.Outcome State Fault Refusal :=
  .next (if s.pins.porst then s else if (s.event f).came.contains o then s.event f else s)

end Sys2Proof.Machine
end

