-- ==== Sys2Proof/Machine/Bills.lean ====
section
/-! DEFINITION. Chapter 8, Tonnage Bills (R152 to R164): the figures of a bill, its requests, and the store at a
restart. -/

namespace Sys2Proof.Machine

/-! ### The figures of a bill (R153, R154, R155) -/

/-- Changes the lot of an OPEN record; a record in another state is left as it is (R153). -/
def BillRecord.modifyOpen (f : Lot → Lot) : BillRecord → BillRecord
  | .opened l => .opened (f l)
  | r => r

/-- Changes the lot of one OPEN bill. -/
def State.modifyBill (s : State) (n : BillNo) (f : Lot → Lot) : State :=
  s.setBills { s.bills with records := s.bills.records.set n ((s.bills.records.get n).modifyOpen f) }

/-- A carry charged to a lot adds to weighed and to in-transit (R153). -/
def Lot.charge (k : Nat) (l : Lot) : Lot :=
  { l with weighed := l.weighed + k, inTransit := l.inTransit + k }

/-- The hold list with k kilograms more for hold h: added to its entry, or appended as a new entry (R35, R154). -/
def creditEntry (h : HoldNo) (k : Nat) : List (HoldNo × Nat) → List (HoldNo × Nat)
  | [] => [(h, k)]
  | (g, m) :: rest => if g = h then (g, m + k) :: rest else (g, m) :: creditEntry h k rest

/-- A discharged parcel takes its mass from in-transit and enters it in exactly one of unresolved, spill and the
hold entry (R35). -/
def Lot.discharge (estimated : Bool) (dest : Option HoldNo) (k : Nat) (l : Lot) : Lot :=
  let l := { l with inTransit := l.inTransit - k }
  if estimated then { l with unresolved := l.unresolved + k }
  else match dest with
    | none => { l with spill := l.spill + k }
    | some h => { l with holds := creditEntry h k l.holds }

/-- The dust-stop count rises by 1, saturating (R155). -/
def Lot.countDustStop (l : Lot) : Lot := { l with dustStops := satAdd 65535 l.dustStops 1 }

/-- The restart count rises by 1, saturating (R155). -/
def Lot.countRestart (l : Lot) : Lot := { l with restarts := satAdd 255 l.restarts 1 }

/-- A restart's move of the whole in-transit figure to unresolved, with its count (R162, R163). -/
def Lot.restart (l : Lot) : Lot :=
  { l with unresolved := l.unresolved + l.inTransit, inTransit := 0 }.countRestart

/-- A vector of bill records changed record by record. -/
def mapRecords (f : BillRecord → BillRecord) (v : Vector BillRecord 12) : Vector BillRecord 12 :=
  ⟨(v.toList.map f).toArray, by simp⟩

/-- The store kept through a POWER_ON with BKVALID or a PART_RESET (R162, R163). -/
def BillStore.kept (b : BillStore) : BillStore :=
  { b with records := mapRecords (·.modifyOpen Lot.restart) b.records, retention := .kept }

/-- A parcel's lot at LOOP_RESTART: its mass moves from in-transit to unresolved (R42). -/
def Lot.unresolve (k : Nat) (l : Lot) : Lot :=
  { l with inTransit := l.inTransit - k, unresolved := l.unresolved + k }

/-- The restart counts of the OPEN bills rise at LOOP_RESTART (R164). -/
def State.countRestarts (s : State) : State :=
  s.setBills { s.bills with records := mapRecords (·.modifyOpen Lot.countRestart) s.bills.records }

/-! ### OPEN_LOT, CLOSE_BILL, RELEASE_BILL (R157 to R159) -/

/-- The lowest-numbered FREE record, if any. -/
def BillStore.firstFree (b : BillStore) : Option BillNo :=
  (List.finRange 12).find? (fun n => decide (b.records.get n = .free))

/-- A record OPEN or CLOSED holds the lot identifier (R157). -/
def BillStore.holdsIdentifier (b : BillStore) (id : Count32) : Bool :=
  b.records.toList.any (fun r => r.lot?.any (fun l => decide (l.identifier = id)))

/-- OPEN_LOT's work (R157). -/
def openLot (p : List Byte) (s : State) : State × Answer :=
  let v := readParams [.unsigned 4, .unsigned 1, .unsigned 2] p
  let id : Count32 := BitVec.ofNat 32 (paramNat v 0)
  if !within 300 1200 (param v 2) then refuse .badParam s
  else if s.bills.holdsIdentifier id then refuse .duplicate s
  else match s.bills.firstFree with
    | none => refuse .storeFull s
    | some n =>
      let lot : Lot :=
        { identifier := id, commodity := BitVec.ofNat 8 (paramNat v 1), density := paramNat v 2,
          weighed := 0, inTransit := 0, spill := 0, unresolved := 0, holds := [],
          totalizerAtOpen := s.bills.totalizer, dustStops := 0, restarts := 0 }
      let s := s.setBills { s.bills with records := s.bills.records.set n (.opened lot) }
      done (s.raiseNotice (.bill n .opened)) [.small (n.val + 1)]

/-- A PENDING or ACTIVE step names the bill (R158). -/
def Plan.namesBill (p : Plan) (n : BillNo) : Bool :=
  p.steps.any (fun st => decide (st.bill = n ∧ (st.state = .pending ∨ st.state = .active)))

/-- CLOSE_BILL's work (R158). -/
def closeBill (p : List Byte) (s : State) : State × Answer :=
  match numbered 12 (paramNat (readParams [.small] p) 0) with
  | none => refuse .badParam s
  | some n =>
    match s.bills.records.get n with
    | .opened lot =>
      if lot.inTransit ≠ 0 then refuse .lotInTransit s
      else if s.plan.namesBill n then refuse .lotPlanned s
      else
        let s := s.setBills { s.bills with
          records := s.bills.records.set n (.closed lot s.bills.totalizer) }
        done (s.raiseNotice (.bill n .closed))
    | _ => refuse .wrongState s

/-- RELEASE_BILL's work (R159). -/
def releaseBill (p : List Byte) (s : State) : State × Answer :=
  match numbered 12 (paramNat (readParams [.small] p) 0) with
  | none => refuse .badParam s
  | some n =>
    match s.bills.records.get n with
    | .closed _ _ =>
      let s := s.setBills { s.bills with records := s.bills.records.set n .free }
      done (s.raiseNotice (.bill n .released))
    | _ => refuse .wrongState s

/-! ### READ_BILL (R160, R202) -/

/-- The sum of a lot's hold entries. -/
def Lot.entrySum (l : Lot) : Nat := (l.holds.map (·.2)).sum

/-- The states of the records, two bits each, record 1 the most significant (R202). -/
def stateBits : List BillRecord → Nat := fun rs => rs.foldl (fun n r => 4 * n + r.number) 0

/-- The store directory (R160, R202). -/
def billDirectory (b : BillStore) : List Field :=
  [.num 3 (stateBits b.records.toList), .small b.freeRecords, .small b.retention.number,
   .num 4 b.totalizer.toNat]
  ++ b.records.toList.map (fun r => .num 4 (r.lot?.elim 0 (fun l => (l.identifier.toNat : Int))))

/-- A bill's header and totals (R160, R202). A FREE record is answered with its number and state. -/
def billHeader (n : BillNo) (r : BillRecord) : List Field :=
  [.small (n.val + 1), .small r.number] ++ match r.lot? with
    | none => []
    | some l =>
      [.num 4 l.identifier.toNat, .num 1 l.commodity.toNat, .num 2 l.density, .num 6 l.weighed,
       .num 6 l.inTransit, .num 6 l.spill, .num 6 l.unresolved, .num 6 l.entrySum,
       .small l.holds.length, .num 4 l.totalizerAtOpen.toNat,
       .optNat 5 (match r with | .closed _ t => some t.toNat | _ => none),
       .num 2 l.dustStops, .num 1 l.restarts]

/-- A bill's hold list (R160, R202): the mass is sent in 44 bits, saturated. -/
def billHoldList (n : BillNo) (l : Lot) : List Field :=
  [.small (n.val + 1), .small l.holds.length]
  ++ l.holds.map (fun e => .num 6 ((e.1.val + 1) * 2 ^ 44 + min e.2 17592186044415 : Nat))

/-- READ_BILL's work (R160). -/
def readBill (p : List Byte) (s : State) : State × Answer :=
  let v := readParams [.small, .small] p
  let number := paramNat v 0
  let page := paramNat v 1
  if number > 12 ∨ page > 1 then refuse .badParam s
  else if number = 0 then
    if page = 1 then refuse .badParam s else done s (billDirectory s.bills)
  else match numbered 12 number with
    | none => refuse .badParam s
    | some n =>
      let r := s.bills.records.get n
      if page = 0 then done s (billHeader n r)
      else match r.lot? with
        | none => refuse .notFound s
        | some l => done s (billHoldList n l)

/-! ### Meanings -/

/-- OPEN_LOT (R157), code 70h. -/
def execOpenLot (p : List Byte) (s : State) : Host.Outcome State Fault Refusal :=
  s.take (·.serve 0x70#8 7 p (openLot p))

/-- CLOSE_BILL (R158), code 71h. -/
def execCloseBill (p : List Byte) (s : State) : Host.Outcome State Fault Refusal :=
  s.take (·.serve 0x71#8 1 p (closeBill p))

/-- RELEASE_BILL (R159), code 72h. -/
def execReleaseBill (p : List Byte) (s : State) : Host.Outcome State Fault Refusal :=
  s.take (·.serve 0x72#8 1 p (releaseBill p))

/-- READ_BILL (R160), code 73h. -/
def execReadBill (p : List Byte) (s : State) : Host.Outcome State Fault Refusal :=
  s.take (·.serve 0x73#8 1 p (readBill p))

end Sys2Proof.Machine
end

