-- ==== Sys2Proof/Machine/Queue.lean ====
section
/-! DEFINITION. Chapter 2, the transit queue: opening, filling, closing and deferral (R23 to R30), READ_TRANSIT
(R40), and the queue at LOOP_RESTART (R42). -/

namespace Sys2Proof.Machine

/-- The number of parcels in the queue (R23). -/
def TransitQueue.count (q : TransitQueue) : Nat :=
  q.closed.length + (if q.openParcel.isSome then 1 else 0)

/-- A close of the open parcel is deferred (R29): the flag is set, and a WEIGH notice QUEUE_FULL is raised if it was
clear before. -/
def State.deferClose (s : State) : State :=
  if s.queue.closeDeferred then s
  else (s.setQueue { s.queue with closeDeferred := true }).raiseNotice (.weigh .queueFull)

/-- The open parcel closes at an odometer value and a new open parcel takes its place (R26, R27, R28, R30). -/
def TransitQueue.replaceOpen (q : TransitQueue) (p : Parcel) (at_ : Count32) (new : Parcel) : TransitQueue :=
  { q with closed := q.closed ++ [⟨p, at_⟩], openParcel := some new }

/-- The new open parcel that takes the weigher's tag and estimated flag (R24, R27, R28, R30). -/
def State.newParcel (s : State) (at_ : Count32) : Parcel :=
  ⟨s.weigher.tag, s.weigher.estimated, 0, at_⟩

/-- The parcel has absorbed nothing and covered nothing (R27, R28): it may be changed in place. -/
def State.untouched (s : State) (p : Parcel) : Bool :=
  decide (p.mass = 0 ∧ p.openOdometer = s.weigher.odometer)

/-- The weigher's tag has changed to a different value (R27, R29). -/
def State.tagChanged (s : State) : State :=
  match s.queue.openParcel with
  | none => s
  | some p =>
    if s.untouched p then
      s.setQueue { s.queue with openParcel := some { p with lot := s.weigher.tag } }
    else if s.queue.count < Config.queueLimit then
      s.setQueue (s.queue.replaceOpen p s.weigher.odometer (s.newParcel s.weigher.odometer))
    else s.deferClose

/-- The weigher's lot tag is set (R14): a change is handed to the queue at once, a setting to the value held hands
nothing on. -/
def State.setTag (s : State) (tag : Option BillNo) : State :=
  if s.weigher.tag = tag then s else (s.setWeigher { s.weigher with tag := tag }).tagChanged

/-- The weigher's estimated flag has changed (R28, R29): where the close is deferred, a change to set marks the open
parcel and a change to clear leaves it (log 6). -/
def State.estimatedChanged (s : State) : State :=
  match s.queue.openParcel with
  | none => s
  | some p =>
    if s.untouched p then
      s.setQueue { s.queue with openParcel := some { p with estimated := s.weigher.estimated } }
    else if s.queue.count < Config.queueLimit then
      s.setQueue (s.queue.replaceOpen p s.weigher.odometer (s.newParcel s.weigher.odometer))
    else
      let s := s.deferClose
      s.setQueue { s.queue with
        openParcel := some { p with estimated := p.estimated || s.weigher.estimated } }

/-- The weigher's estimated flag takes a value; a change is handed to the queue (R13). -/
def State.setEstimated (s : State) (e : Bool) : State :=
  if s.weigher.estimated = e then s
  else (s.setWeigher { s.weigher with estimated := e }).estimatedChanged

/-- A parcel is opened if the queue holds no open one (R24), at the odometer as it stood before the period's
advance. -/
def State.ensureOpen (s : State) (before : Count32) : State :=
  match s.queue.openParcel with
  | some _ => s
  | none => s.setQueue { s.queue with openParcel := some (s.newParcel before) }

/-- The open parcel as a carry finds it (R25, R29): while a close is deferred, an empty one takes the weigher's tag
and flag, and one holding mass takes the estimated flag if the weigher's is set. -/
def State.parcelForCarry (s : State) (p : Parcel) : Parcel :=
  if s.queue.closeDeferred then
    if p.mass = 0 then { p with lot := s.weigher.tag, estimated := s.weigher.estimated }
    else { p with estimated := p.estimated || s.weigher.estimated }
  else p

/-- A carry is charged to the bill or account that a lot names (R11, R12, R25). -/
def State.chargeLot (s : State) (lot : Option BillNo) (k : Nat) : State :=
  match lot with
  | some n => s.modifyBill n (Lot.charge k)
  | none =>
    let a := s.weigher.account
    s.setWeigher { s.weigher with account :=
      { a with weighed := a.weighed + toCount k, inTransit := a.inTransit + toCount k } }

/-- A carry of k kilograms, at least 1, reaches the queue, the totalizer and its account (R11, R24, R25, R29);
`before` is the odometer before the period's advance. -/
def State.carry (s : State) (before : Count32) (k : Nat) : State :=
  let s := s.ensureOpen before
  match s.queue.openParcel with
  | none => s
  | some p =>
    let p := s.parcelForCarry p
    let s := s.setQueue { s.queue with openParcel := some { p with mass := p.mass + k } }
    let s := s.setBills { s.bills with totalizer := s.bills.totalizer + toCount k }
    s.chargeLot p.lot k

/-- The deferred close, the second part of an advance (R26, R30), with the odometer after the advance. -/
def State.makeDeferredClose (s : State) : State :=
  match s.queue.openParcel with
  | some p =>
    if s.queue.closeDeferred ∧ s.queue.count < Config.queueLimit then
      (s.setQueue { s.queue.replaceOpen p s.weigher.odometer (s.newParcel s.weigher.odometer) with
        closeDeferred := false }).note .deferredClose
    else s
  | none => s

/-- The segment test, the third part of an advance (R26), with the odometer after the advance. In a full queue the
close it calls for is deferred (R29). -/
def State.segmentTest (s : State) : State :=
  match s.queue.openParcel, s.weigher.table with
  | some p, some t =>
    if t.segmentLength * 100 ≤ wrapDiff s.weigher.odometer p.openOdometer then
      let s := s.note .segmentClose
      if s.queue.count < Config.queueLimit then
        s.setQueue (s.queue.replaceOpen p s.weigher.odometer
          ⟨p.lot, p.estimated, 0, s.weigher.odometer⟩)
      else s.deferClose
    else s
  | _, _ => s

/-- One parcel's mass moves to unresolved at LOOP_RESTART (R42). -/
def State.unresolveParcel (s : State) (p : Parcel) : State :=
  match p.lot with
  | some n => s.modifyBill n (Lot.unresolve p.mass)
  | none => s

/-- LOOP_RESTART empties the queue (R42), oldest parcel first. -/
def State.emptyQueue (s : State) : State :=
  let parcels := s.queue.closed.map (·.parcel) ++ s.queue.openParcel.toList
  let s := parcels.foldl State.unresolveParcel s
  let s := s.setWeigher { s.weigher with account := { s.weigher.account with inTransit := 0 } }
  s.setQueue .restart

/-! ### READ_TRANSIT (R40) -/

/-- The remaining travel of the oldest closed parcel, absent when there is none (R40). It is below 0 where a table
loaded since has shortened the transit distance (log 4). -/
def State.remainingTravel (s : State) : Option Int :=
  match s.queue.closed, s.weigher.table with
  | c :: _, some t => some (t.transitDistance * 100 - wrapDiff s.weigher.odometer c.closeOdometer)
  | _, _ => none

/-- READ_TRANSIT's data (R40, R200). -/
def transitReport (s : State) : List Field :=
  [.num 1 s.queue.count, .flag s.queue.openParcel.isSome]
  ++ (match s.queue.openParcel with
      | some p => [.lot p.lot, .flag p.estimated, .num 4 p.mass, .num 4 p.openOdometer.toNat]
      | none => [])
  ++ [.flag s.queue.closeDeferred, .num 4 s.weigher.odometer.toNat, .optInt 4 s.remainingTravel]
  ++ s.bills.records.toList.map (fun r => .num 3 (min 16777215 r.inTransit))

/-- READ_TRANSIT's work (R40). -/
def readTransit (_ : List Byte) (s : State) : State × Answer := done s (transitReport s)

/-- READ_TRANSIT (R40), code 18h. -/
def execReadTransit (p : List Byte) (s : State) : Host.Outcome State Fault Refusal :=
  s.take (·.serve 0x18#8 0 p (readTransit p))

end Sys2Proof.Machine
end

