-- ==== Sys2Proof/Machine/Pour.lean ====
section
/-! DEFINITION. Chapter 4, the pour: the tests of the plan (R65, R67, R72, R73), entry to POURING, INTERRUPTED and
STOPPING (R71, R74 to R76), and the stop set with its hand-on to the plan (R135). -/

namespace Sys2Proof.Machine

/-! ### What the plan reads of its neighbours (R65) -/

/-- The spout is ready (R65): OVER the active step's hold, IN_BAND or ABOVE_BAND, without tip contact. -/
def State.spoutReady (s : State) : Bool :=
  match s.plan.active with
  | none => false
  | some st =>
    decide (s.spout.position = .over st.hold)
    && (decide (s.spout.band = some .inBand) || decide (s.spout.band = some .aboveBand))
    && !s.spout.tipContact

/-- The gate shows closed (R76): the last accepted value is at or below the gate closed limit while GATE_POS is not
LOST. -/
def State.gateShowsClosed (s : State) : Bool :=
  match s.gate.position, s.weigher.table with
  | some g, some t => !s.gate.positionLost && decide (g ≤ t.gateClosedLimit)
  | _, _ => false

/-- The remainder of a step (R67). -/
def Step.remainder (st : Step) : Nat := st.target - st.credited

/-- The lever of a hold, if it is present. -/
def State.leverOf (s : State) (h : HoldNo) : Option Int := (s.holds.holds.get h).map (·.static.lever)

/-- The activation check (R67): the reason it fails with, or none. Without a vessel record or a present hold, which
R79 and the restarts exclude for a step of the list, there is nothing to predict by and it fails with TRIM. -/
def State.activationCheck (s : State) (st : Step) : Option BlockReason :=
  match s.holds.vessel, s.holds.moment, s.holds.cargo, s.leverOf st.hold with
  | some v, some moment, some cargo, some lever =>
    if !within v.aftLimit v.forwardLimit (moment + st.remainder * lever) then some .trim
    else if v.cargoLimit < cargo + st.remainder then some .cargo
    else none
  | _, _, _, _ => some .trim

/-- The anticipation test (R72). -/
def State.anticipationMet (s : State) : Bool :=
  match s.plan.active with
  | none => false
  | some st =>
    let allowance := if st.topUps = 0 then s.holds.vessel.elim 0 (·.allowance) else 0
    decide (st.target ≤ st.credited + (s.bills.records.get st.bill).inTransit + allowance)

/-- The trim part of the limit tests (R73). -/
def State.trimExceeded (s : State) : Bool :=
  match s.holds.vessel, s.holds.moment with
  | some v, some m => !within v.aftLimit v.forwardLimit m
  | _, _ => false

/-- The cargo part of the limit tests (R73). -/
def State.cargoReached (s : State) : Bool :=
  match s.holds.vessel, s.holds.cargo with
  | some v, some c => decide (v.cargoLimit ≤ c)
  | _, _ => false

/-- The limit tests' cause, if one is met (R73). -/
def State.limitCause (s : State) : Option StopCause :=
  if s.trimExceeded then some .trim else if s.cargoReached then some .cargo else none

/-! ### Plan states -/

/-- The state with another plan state. -/
def State.setPlanState (s : State) (p : PlanState) : State := s.setPlan { s.plan with state := p }

/-- The state with another stop set. -/
def State.setStopSet (s : State) (r : ReasonSet) : State := s.setGate { s.gate with stopSet := r }

/-- PLAN is raised; it is handed to nobody (R135). -/
def State.raisePlan (s : State) : State := s.setStopSet (s.gate.stopSet.add .plan)

/-- PLAN is cleared; it is handed to nobody (R135). -/
def State.clearPlan (s : State) : State := s.setStopSet (s.gate.stopSet.remove .plan)

/-- The active step is changed. -/
def State.modifyActive (s : State) (f : Step → Step) : State := s.setPlan (s.plan.modifyActive f)

/-- A PLAN notice. -/
def State.planNotice (s : State) (e : PlanEvent) : State := s.raiseNotice (.plan e)

/-- The plan's wait for the gate to show closed in STOPPING (R76). -/
def State.testGate (s : State) : State :=
  match s.plan.state with
  | .stopping c =>
    if s.gateShowsClosed then
      ((s.setPlanState (.draining c s.weigher.odometer)).planNotice .draining).note .drainStart
    else s
  | _ => s

/-- The plan enters STOPPING with a cause (R76) and tests the gate. -/
def State.enterStopping (s : State) (c : StopCause) : State :=
  ((s.raisePlan.setPlanState (.stopping c)).planNotice .stopping).testGate

/-- The dust-stop count of the active step's bill rises (R74, R155). -/
def State.countDustStop (s : State) : State :=
  match s.plan.active with
  | some st => s.modifyBill st.bill Lot.countDustStop
  | none => s

/-- The plan enters INTERRUPTED (R74) with the reasons other than PLAN in the stop set as its first kinds. -/
def State.enterInterrupted (s : State) : State :=
  let kinds := s.gate.stopSet.others
  let s := s.raisePlan.setPlanState .interrupted
  let s := s.modifyActive (fun st => { st with kinds := kinds })
  let s := if kinds.hasDust then s.countDustStop else s
  s.planNotice .interrupted

/-- The plan enters POURING (R71); `topUp` for an entry by top-up. -/
def State.enterPouring (s : State) (topUp : Bool) : State :=
  match s.plan.active with
  | none => s
  | some st =>
    let s := s.setTag (some st.bill)
    if s.anticipationMet then s.enterStopping .target
    else match s.limitCause with
      | some c => s.enterStopping c
      | none =>
        if !s.gate.stopSet.others.isEmpty then s.enterInterrupted
        else ((s.setPlanState .pouring).clearPlan).planNotice (if topUp then .topUp else .pouring)

/-- The plan enters WAIT_PROCEED. -/
def State.enterWaitProceed (s : State) : State :=
  (s.setPlanState .waitProceed).planNotice .waitProceed

/-- A further reason is raised while the plan is INTERRUPTED (R74). -/
def State.addKind (s : State) (r : StopReason) : State :=
  match s.plan.active with
  | none => s
  | some st =>
    let s := if r.isDust ∧ ¬ st.kinds.hasDust then s.countDustStop else s
    s.modifyActive (fun st => { st with kinds := st.kinds.add r })

/-- The plan is handed the raising of a reason other than PLAN (R74). -/
def State.planReasonRaised (s : State) (r : StopReason) : State :=
  match s.plan.state with
  | .pouring => s.enterInterrupted
  | .interrupted => s.addKind r
  | _ => s

/-- The interruption ends (R75). -/
def State.endInterruption (s : State) : State :=
  match s.plan.active with
  | none => s
  | some st =>
    let s := s.note .interruptionEnd
    if st.kinds = .spoutAlone then s.enterPouring false
    else (s.modifyActive (fun st => { st with resumeNeeded := true })).enterWaitProceed

/-- The plan is handed the clearing of a reason other than PLAN (R75). -/
def State.planReasonCleared (s : State) : State :=
  match s.plan.state with
  | .interrupted => if s.gate.stopSet.others.isEmpty then s.endInterruption else s
  | _ => s

/-! ### The stop set (R135) -/

/-- An owner raises its reason, which is not PLAN. -/
def State.raiseReason (s : State) (r : StopReason) : State :=
  if s.gate.stopSet.has r then s
  else (s.setStopSet (s.gate.stopSet.add r)).planReasonRaised r

/-- An owner clears its reason, which is not PLAN. -/
def State.clearReason (s : State) (r : StopReason) : State :=
  if s.gate.stopSet.has r then (s.setStopSet (s.gate.stopSet.remove r)).planReasonCleared
  else s

/-- An owner's reason follows its condition. -/
def State.setReason (s : State) (r : StopReason) (present : Bool) : State :=
  if present then s.raiseReason r else s.clearReason r

/-! ### The plan's tests on its inputs -/

/-- The plan's tests on a carry (R72). -/
def State.planCarry (s : State) : State :=
  if s.plan.state = .pouring ∧ s.anticipationMet then s.enterStopping .target else s

/-- The plan's tests on a credit (R72, R73). -/
def State.planCredit (s : State) : State :=
  match s.plan.state with
  | .pouring =>
    if s.anticipationMet then s.enterStopping .target
    else match s.limitCause with
      | some c => s.enterStopping c
      | none => s
  | .interrupted =>
    match s.limitCause with
    | some c => s.enterStopping c
    | none => s
  | _ => s

/-- The plan's test of the spout in WAIT_SPOUT (R69). -/
def State.testSpout (s : State) : State :=
  match s.plan.state, s.plan.active with
  | .waitSpout, some st =>
    if s.modes.mode = .loading ∧ s.spoutReady then
      let s := s.note .spoutReadyPour
      if st.resumeNeeded ∨ (st.breakFlag ∧ ¬ st.breakPassed) then s.enterWaitProceed
      else s.enterPouring false
    else s
  | _, _ => s

end Sys2Proof.Machine
end

