-- ==== Sys2Proof/Machine/Holds.lean ====
section
/-! DEFINITION. Chapter 3, the hold table's derived values: deck levels, heights, the clear level, the moment and
the cargo aboard (R49 to R58). -/

namespace Sys2Proof.Machine

/-- The deck level at a reference position (R51): the line through the two rangers, the quotient rounded up. -/
def deckLevelAt (v : VesselRecord) (fore aft : Int) (reference : Nat) : Int :=
  fore + divUp ((aft - fore) * ((reference : Int) - v.forePosition))
    ((v.aftPosition : Int) - v.forePosition)

/-- The fill (R53). -/
def fillOf (volume area : Nat) : Nat := divUpNat (volume * 10) area

/-- The allowance for the shape of the grain: the measured offset if present, otherwise the heap allowance (R54). -/
def HoldRecord.shape (r : HoldRecord) : Nat := r.offset.getD r.static.heap

/-- The floor, coaming top, fill and surface estimate follow the fields they derive from (R53, R54). -/
def HoldRecord.derive (r : HoldRecord) : HoldRecord :=
  let floor := r.deckLevel - r.static.depth
  let top := r.deckLevel + r.static.coaming
  let fill := fillOf r.volume r.static.area
  { r with floor := floor, coamingTop := top, fill := fill,
           surface := saturate floor top (floor + fill + r.shape) }

/-- A hold's deck level and heights follow the held deck values (R51, R53, R54). -/
def HoldTable.relevel (t : HoldTable) (v : VesselRecord) (r : HoldRecord) : HoldRecord :=
  { r with deckLevel := deckLevelAt v t.fore t.aft r.reference }.derive

/-- A vector of holds changed hold by hold. -/
def mapHolds (f : Option HoldRecord → Option HoldRecord) (v : Vector (Option HoldRecord) 9) :
    Vector (Option HoldRecord) 9 :=
  ⟨(v.toList.map f).toArray, by simp⟩

/-- The highest coaming top over the present holds, if there is one (R56). -/
def highestTop : List (Option HoldRecord) → Option Int
  | [] => none
  | none :: rest => highestTop rest
  | some r :: rest => some ((highestTop rest).elim r.coamingTop (max r.coamingTop))

/-- The clear level (R56): absent without a vessel record, a present hold or an established deck. -/
def HoldTable.findClearLevel (t : HoldTable) : Option Int :=
  match t.vessel, t.established with
  | some v, true => (highestTop t.holds.toList).map (· + (v.coamingClearance : Int))
  | _, _ => none

/-- The clear level follows (R56). -/
def HoldTable.reclear (t : HoldTable) : HoldTable := { t with clearLevel := t.findClearLevel }

/-- A hold's mass: preload plus credited (R58). -/
def HoldRecord.mass (r : HoldRecord) : Nat := r.static.preload + r.credited

/-- The cargo aboard over a list of holds (R58). -/
def cargoOf : List (Option HoldRecord) → Nat
  | [] => 0
  | none :: rest => cargoOf rest
  | some r :: rest => r.mass + cargoOf rest

/-- The holds' part of the moment (R58). -/
def momentOf : List (Option HoldRecord) → Int
  | [] => 0
  | none :: rest => momentOf rest
  | some r :: rest => r.mass * r.static.lever + momentOf rest

/-- The moment and the cargo aboard follow (R58): absent while no vessel record is loaded. -/
def HoldTable.reweigh (t : HoldTable) : HoldTable :=
  { t with moment := t.vessel.map (fun v => v.baseMoment + momentOf t.holds.toList),
           cargo := t.vessel.map (fun _ => cargoOf t.holds.toList) }

/-- Every deck level, height and surface, then the clear level (R52). -/
def HoldTable.recomputeHeights (t : HoldTable) : HoldTable :=
  match t.vessel with
  | none => t.reclear
  | some v => { t with holds := mapHolds (·.map (t.relevel v)) t.holds }.reclear

/-- A present hold's record is changed. -/
def HoldTable.modifyHold (t : HoldTable) (h : HoldNo) (f : HoldRecord → HoldRecord) : HoldTable :=
  { t with holds := t.holds.set h ((t.holds.get h).map f) }

/-- The litres of k kilograms at a density, rounded up (R34, R47, R57). -/
def litres (k density : Nat) : Nat := divUpNat (k * 1000) density

/-- A credit's masses (R34, R57): credited mass and volume, each saturated. -/
def HoldRecord.credit (k density : Nat) (r : HoldRecord) : HoldRecord :=
  { r with credited := satAdd Config.max32 r.credited k,
           volume := satAdd Config.max32 r.volume (litres k density) }

/-- A measured offset from a tip contact (R55), with the surface estimate it gives. -/
def HoldRecord.measure (tip : Int) (r : HoldRecord) : HoldRecord :=
  { r with offset := some (saturate 0 r.static.depth (tip - r.floor - r.fill)).toNat }.derive

end Sys2Proof.Machine
end

