-- ==== Sys2Proof/Machine/Spout.lean ====
section
/-! DEFINITION. Chapter 5, Spout Travel Supervision (R90 to R112): axis positions, the spout position state, the
band, the barriers, the velocity clamp, tip contact, LOAD_AXIS and READ_SPOUT. -/

namespace Sys2Proof.Machine

/-! ### Axes -/

/-- The record of an axis. -/
def Spout.axis (sp : Spout) : Axis → AxisRecord
  | .travel => sp.travel
  | .reach => sp.reach
  | .drop => sp.drop

/-- The supervisor with another record for an axis. -/
def Spout.setAxis (sp : Spout) (a : Axis) (r : AxisRecord) : Spout :=
  match a with
  | .travel => { sp with travel := r }
  | .reach => { sp with reach := r }
  | .drop => { sp with drop := r }

/-- Every axis is KNOWN (R96, R108). -/
def Spout.allKnown (sp : Spout) : Bool := sp.travel.known && sp.reach.known && sp.drop.known

/-- The sample binding of an axis (R92). -/
def axisBinding : Axis → SampleBinding
  | .travel => .travelPos
  | .reach => .reachPos
  | .drop => .dropPos

/-- A sample read in axis units (R92): unsigned for TRAVEL and REACH, signed for DROP. -/
def readPosition (a : Axis) (v : Half) : Int :=
  match a with
  | .drop => v.toInt
  | _ => v.toNat

/-- The axis's range of positions (R92). -/
def inAxisRange (a : Axis) (x : Int) : Bool :=
  match a with
  | .travel => within 0 25000 x
  | .reach => within 0 40000 x
  | .drop => within (-20000) 30000 x

/-- What became of an axis's sample (R93 to R95). -/
inductive AxisVerdict | kept | accepted | becameUnknown | recovered
deriving DecidableEq, Repr

/-- The axis becomes UNKNOWN (R94); the accepted position is kept. -/
def AxisRecord.toUnknown (r : AxisRecord) : AxisRecord :=
  { r with known := false, implausible := 0, recovery := 0, runSample := none }

/-- A sample is accepted as the position (R93, R95). -/
def AxisRecord.accept (r : AxisRecord) (x : Int) : AxisRecord :=
  { r with known := true, accepted := some x, positionGap := 0, implausible := 0, recovery := 0,
           runSample := none }

/-- A recovery run starts with a sample (R95). -/
def AxisRecord.startRun (r : AxisRecord) (x : Int) : AxisRecord :=
  { r with runSample := some x, runGap := 0, recovery := 1 }

/-- The widest difference plausible over a gap, capped at 65,535 (R93, R95). -/
def stepLimit (maxStep gap : Nat) : Nat := min 65535 (maxStep * gap)

/-- Two positions differ by at most a limit. -/
def near (x y : Int) (limit : Nat) : Bool := decide ((x - y).natAbs ≤ limit)

/-- A KNOWN axis's sample (R93). -/
def AxisRecord.judgeKnown (r : AxisRecord) (e : AxisEntry) (a : Axis) (x : Int) :
    AxisRecord × AxisVerdict :=
  if inAxisRange a x && near x (r.accepted.getD 0) (stepLimit e.maxStep r.positionGap) then
    ({ r with accepted := some x, positionGap := 0, implausible := 0 }, .accepted)
  else if r.implausible + 1 < 3 then ({ r with implausible := r.implausible + 1 }, .kept)
  else (r.toUnknown, .becameUnknown)

/-- An UNKNOWN axis's sample (R95). -/
def AxisRecord.judgeUnknown (r : AxisRecord) (e : AxisEntry) (a : Axis) (x : Int) :
    AxisRecord × AxisVerdict :=
  if !inAxisRange a x then ({ r with recovery := 0, runSample := none }, .kept)
  else match r.runSample with
    | none => (r.startRun x, .kept)
    | some y =>
      if r.recovery = 0 then (r.startRun x, .kept)
      else if near x y (stepLimit e.maxStep r.runGap) then
        if r.recovery + 1 < 4 then
          ({ r with runSample := some x, runGap := 0, recovery := r.recovery + 1 }, .kept)
        else (r.accept x, .recovered)
      else (r.startRun x, .kept)

/-- The gaps grow at the start of the axis's part of a period (R92). -/
def AxisRecord.age (r : AxisRecord) : AxisRecord :=
  { r with positionGap := satAdd 65535 r.positionGap 1, runGap := satAdd 65535 r.runGap 1 }

/-- An axis's part of a period (R92 to R95). Where its binding is newly LOST with the axis UNKNOWN already, the recovery
run ends, but the axis does not become UNKNOWN again: AXIS_UNKNOWN does not come about, and no recomputation follows,
which would change nothing (DESIGN CHOICE, log 43). -/
def AxisRecord.takeSample (r : AxisRecord) (a : Axis) (h : Handed) : AxisRecord × AxisVerdict :=
  let r := r.age
  match h, h.value, r.entry with
  | .newlyLost, _, _ => (r.toUnknown, if r.known then .becameUnknown else .kept)
  | _, some v, some e =>
    if r.known then r.judgeKnown e a (readPosition a v) else r.judgeUnknown e a (readPosition a v)
  | _, _, _ => (r, .kept)

/-! ### Where the tip is (R96) and the band (R98) -/

/-- The shrink of a TRAVEL window: the tip radius in cm, rounded up (R96). -/
def travelShrink (v : VesselRecord) : Nat := divUpNat v.tipRadius 10

/-- A position lies in a hold's shrunk window (R96). -/
def inShrunkWindow (v : VesselRecord) (st : HoldStatic) (travel reach : Int) : Bool :=
  within (st.travelMin + travelShrink v) (st.travelMax - travelShrink v) travel
  && within (st.reachMin + v.tipRadius) (st.reachMax - v.tipRadius) reach

/-- A position lies in a hold's window (R33, R45). -/
def inWindow (st : HoldStatic) (travel reach : Int) : Bool :=
  within st.travelMin st.travelMax travel && within st.reachMin st.reachMax reach

/-- The present hold whose shrunk window holds the accepted TRAVEL and REACH positions, if any (R96, R104). -/
def State.shrunkHold (s : State) : Option HoldNo :=
  match s.holds.vessel, s.spout.travel.accepted, s.spout.reach.accepted with
  | some v, some x, some y =>
    (List.finRange 9).find? (fun h =>
      ((s.holds.holds.get h).map (·.static)).any (inShrunkWindow v · x y))
  | _, _, _ => none

/-- The spout position state (R96). -/
def State.findPosition (s : State) : SpoutPosition :=
  if !s.spout.allKnown then .unknown
  else match s.holds.clearLevel, s.spout.drop.accepted with
    | some level, some tip =>
      if level ≤ tip then .clear
      else match s.shrunkHold with
        | some h => .over h
        | none => .stray
    | _, _ => .stray

/-- The effective maximum drop over a hold (R98). -/
def effectiveMaxOf (sp : Spout) (st : HoldStatic) : Nat :=
  max (st.minDrop + 100) (st.maxDrop - max sp.reductionTip sp.reductionHatch)

/-- The band of a drop (R98). -/
def bandOf (drop : Int) (minDrop effectiveMax : Nat) : Band :=
  if drop < minDrop then .belowBand else if (effectiveMax : Int) < drop then .aboveBand else .inBand

/-- The supervisor with the position state, and with the drop, effective maximum drop and band it gives (R96, R98). -/
def State.judgeSpout (s : State) : Spout :=
  let pos := s.findPosition
  let absent := { s.spout with position := pos, dropHeight := none, effectiveMax := none, band := none }
  match pos, s.spout.drop.accepted with
  | .over h, some tip =>
    match s.holds.holds.get h with
    | some r =>
      let drop := tip - r.surface
      let emax := effectiveMaxOf s.spout r.static
      { s.spout with position := pos, dropHeight := some drop, effectiveMax := some emax,
                     band := some (bandOf drop r.static.minDrop emax) }
    | none => absent
  | _, _ => absent

/-- The DROP cap (R100): in force while the band is ABOVE_BAND. -/
def dropCapOf (sp : Spout) (vessel : Option VesselRecord) : Option Nat :=
  match sp.band, sp.dropHeight, sp.effectiveMax, vessel with
  | some .aboveBand, some drop, some emax, some v =>
    let excess := drop - emax
    some (max v.highDropFloor (1000 - divUp (excess * v.highDropSlope) 16).toNat)
  | _, _, _, _ => none

/-! ### Barriers (R103 to R106) -/

/-- The allowed speed toward a barrier at a distance (R106). -/
def allowedSpeed (e : AxisEntry) (d : Nat) : Nat :=
  if d ≤ e.margin then 0 else min e.vmax ((d - e.margin) * e.gain / 16)

/-- The millimetres of one axis unit (R105). -/
def unitsToMm : Axis → Nat
  | .travel => 10
  | _ => 1

/-- A barrier with its distance and allowed speed (R105, R106); `ahead` is the barrier's distance in axis units. -/
def barrierAt (a : Axis) (e : Option AxisEntry) (position : Option Int) (ahead : Option Int) : Barrier :=
  let d := (ahead.getD 0).toNat * unitsToMm a
  ⟨position, d, e.elim 0 (allowedSpeed · d)⟩

/-- The down barrier of an axis, with its distance and allowed speed. -/
def downBarrier (a : Axis) (r : AxisRecord) (position : Option Int) : Barrier :=
  barrierAt a r.entry position (match r.accepted, position with
    | some x, some b => some (x - b)
    | _, _ => none)

/-- The up barrier of an axis, with its distance and allowed speed. -/
def upBarrier (a : Axis) (r : AxisRecord) (position : Option Int) : Barrier :=
  barrierAt a r.entry position (match r.accepted, position with
    | some x, some b => some (b - x)
    | _, _ => none)

/-- The shrunk window's range on TRAVEL or REACH (R96). -/
def shrunkRange (a : Axis) (v : VesselRecord) (st : HoldStatic) : Int × Int :=
  match a with
  | .travel => (st.travelMin + travelShrink v, st.travelMax - travelShrink v)
  | _ => (st.reachMin + v.tipRadius, st.reachMax - v.tipRadius)

/-- The positions of the down and up barriers of TRAVEL or REACH (R103). -/
def State.sidewaysBarriers (s : State) (a : Axis) : Option Int × Option Int :=
  let r := s.spout.axis a
  match s.spout.position, r.entry, s.holds.vessel with
  | .clear, some e, _ => (some e.lower, some e.upper)
  | .over h, some e, some v =>
    match s.holds.holds.get h with
    | some rec =>
      let range := shrunkRange a v rec.static
      (some (max e.lower range.1), some (min e.upper range.2))
    | none => (r.accepted, r.accepted)
  | _, _, _ => (r.accepted, r.accepted)

/-- The position of the down barrier of DROP (R104). While the clear level is present and no entry is loaded it is the
accepted position (DESIGN CHOICE, log 37). -/
def State.dropDownBarrier (s : State) : Option Int :=
  let r := s.spout.drop
  if s.spout.tipContact then r.accepted
  else match s.holds.clearLevel, r.entry with
    | none, _ => r.accepted
    | some _, none => r.accepted
    | some level, some e =>
      match s.shrunkHold with
      | some h =>
        match s.holds.holds.get h with
        | some rec => some (max e.lower (rec.surface + rec.static.minDrop))
        | none => some (max e.lower level)
      | none => some (max e.lower level)

/-- The barriers, distances and allowed speeds of the three axes (R103 to R106). -/
def State.recomputeBarriers (s : State) : State :=
  let sp := s.spout
  let t := s.sidewaysBarriers .travel
  let r := s.sidewaysBarriers .reach
  s.setSpout { sp with
    travel := { sp.travel with down := downBarrier .travel sp.travel t.1,
                               up := upBarrier .travel sp.travel t.2 },
    reach := { sp.reach with down := downBarrier .reach sp.reach r.1,
                             up := upBarrier .reach sp.reach r.2 },
    drop := { sp.drop with down := downBarrier .drop sp.drop s.dropDownBarrier,
                           up := upBarrier .drop sp.drop (sp.drop.entry.map (·.upper)) } }

/-! ### The recomputation (R97) -/

/-- The SPOUT notices of a recomputation that moves the position state (R110). -/
def State.spoutNotices (s : State) (before : SpoutPosition) : State :=
  let now := s.spout.position
  let s := if before = .unknown ∧ now ≠ .unknown then s.raiseNotice (.spout .recovered) else s
  if now = .unknown ∧ before ≠ .unknown then s.raiseNotice (.spout .unknown)
  else if now = .stray ∧ before ≠ .stray then s.raiseNotice (.spout .stray)
  else s

/-- The spout supervisor recomputes its derived state in the six stages of R97; `tipChanged` says that the tip
contact changed in the event. -/
def State.recomputeSpout (s : State) (tipChanged : Bool) : State :=
  let before := s.spout.position
  let bandBefore := s.spout.band
  let s := s.setSpout s.judgeSpout
  let position := s.spout.position
  let band := s.spout.band
  let s := s.setReason .spout (!s.spoutReady)
  let s := s.setGate { s.gate with dropCap := dropCapOf s.spout s.holds.vessel }
  let s := s.recomputeBarriers
  let s := s.spoutNotices before
  if tipChanged ∨ position ≠ before ∨ band ≠ bandBefore then s.testSpout else s

/-- A measured offset is recorded for a hold, and the spout supervisor takes the new estimate (R55, R102). -/
def State.recordTip (s : State) (h : HoldNo) (tip : Int) : State :=
  let s := (s.setHolds (s.holds.modifyHold h (·.measure tip))).recomputeSpout false
  s.raiseNotice (.spout (.surfaceFound h (((s.holds.holds.get h).bind (·.offset)).getD 0)))

/-- A measured change to active over a hold is reported to the hold table (R102). -/
def State.reportTip (s : State) : State :=
  match s.spout.position, s.spout.drop.accepted with
  | .over h, some tip => s.recordTip h tip
  | _, _ => s

/-- The tip contact flag changes (R101); a measured change to active is reported (R102). -/
def State.changeTipContact (s : State) (active measured : Bool) : State :=
  let s := (s.setSpout { s.spout with tipContact := active }).recomputeSpout true
  if active && measured then s.reportTip else s

/-! ### The velocity clamp (R107, R108) -/

/-- The value written for an axis command (R107, R108). -/
def State.clampCommand (s : State) (a : Axis) (command : Int) : Int :=
  let r := s.spout.axis a
  if !s.spout.allKnown || s.gate.stopSet.has .pullCord then 0
  else if 0 < command then min command r.up.speed
  else max command (-(r.down.speed : Int))

/-! ### Samples -/

/-- The axis's event of a period (R92 to R95, R97): takes the oldest state handed for its binding. -/
def axisEvent (a : Axis) (s : State) : State :=
  match s.waitingFor (axisBinding a) with
  | [] => s
  | h :: _ =>
    let s := s.taken (axisBinding a)
    let r := (s.spout.axis a).takeSample a h
    let s := s.setSpout (s.spout.setAxis a r.1)
    match r.2 with
    | .kept => s
    | .accepted => s.recomputeSpout false
    | .becameUnknown => (s.note (.axisUnknown a)).recomputeSpout false
    | .recovered => (s.note (.axisRecovery a)).recomputeSpout false

/-! ### LOAD_AXIS (R91) -/

/-- An axis sent as an enumeration (R91, R199). -/
def axisOfNumber : Nat → Option Axis
  | 0 => some .travel
  | 1 => some .reach
  | 2 => some .drop
  | _ => none

/-- The kind of the limits in LOAD_AXIS (R199). -/
def limitKind : Axis → ParamKind
  | .drop => .signed 2
  | _ => .unsigned 2

/-- The entry LOAD_AXIS carries for an axis. -/
def readAxisEntry (a : Axis) (p : List Byte) : AxisEntry :=
  let v := readParams [.small, limitKind a, limitKind a, .unsigned 2, .unsigned 2, .unsigned 1,
    .unsigned 2] p
  ⟨param v 1, param v 2, paramNat v 3, paramNat v 4, paramNat v 5, paramNat v 6⟩

/-- Every field of an entry lies in its range, the lower limit below the upper (R90, R91). -/
def AxisEntry.inRange (e : AxisEntry) (a : Axis) : Bool :=
  inAxisRange a e.lower && inAxisRange a e.upper && decide (e.lower < e.upper)
  && within 1 32767 e.vmax && within 0 10000 e.margin && within 1 255 e.gain
  && within 1 2000 e.maxStep

/-- LOAD_AXIS's work (R91). -/
def loadAxis (p : List Byte) (s : State) : State × Answer :=
  if s.modes.mode ≠ .setup then refuse .wrongMode s
  else match axisOfNumber (paramNat (readParams [.small] p) 0) with
    | none => refuse .badParam s
    | some a =>
      let e := readAxisEntry a p
      if !e.inRange a then refuse .badParam s
      else
        let r := s.spout.axis a
        let r := if r.entry.isSome then { r with entry := some e }
          else { r with entry := some e, known := false, recovery := 0, runSample := none }
        done ((s.setSpout (s.spout.setAxis a r)).recomputeSpout false)

/-! ### READ_SPOUT (R109) -/

/-- An accepted position as a field: unsigned for TRAVEL and REACH, signed for DROP (R199). -/
def positionField (a : Axis) (x : Option Int) : Field :=
  match a with
  | .drop => .optInt 2 x
  | _ => .optNat 2 (x.map Int.toNat)

/-- An axis's part of page 0 (R109). -/
def axisReport (a : Axis) (r : AxisRecord) : List Field :=
  [.flag (!r.known), positionField a r.accepted, .small r.implausible, .small r.recovery]

/-- A barrier's part of page 0 (R109, R200). -/
def barrierReport (b : Barrier) : List Field :=
  [.optHeight b.position, .num 2 (min 65535 b.distance), .num 2 b.speed]

/-- Page 0 (R109). Of the two directions of an axis, down is sent first (DESIGN CHOICE, log 4). -/
def spoutReport (s : State) : List Field :=
  let sp := s.spout
  axisReport .travel sp.travel ++ axisReport .reach sp.reach ++ axisReport .drop sp.drop
  ++ positionFields sp.position
  ++ [.optHeight sp.dropHeight, .optNat 2 sp.effectiveMax, .optSmall (sp.band.map (·.number)),
      .flag sp.tipContact, .flag (s.gate.stopSet.has .spout), .optNat 2 s.gate.dropCap]
  ++ barrierReport sp.travel.down ++ barrierReport sp.travel.up
  ++ barrierReport sp.reach.down ++ barrierReport sp.reach.up
  ++ barrierReport sp.drop.down ++ barrierReport sp.drop.up

/-- Pages 1 to 3 (R109): an entry field by field. -/
def axisEntryReport (e : AxisEntry) : List Field :=
  [.num 2 e.lower, .num 2 e.upper, .num 2 e.vmax, .num 2 e.margin, .num 1 e.gain, .num 2 e.maxStep]

/-- READ_SPOUT's work (R109). -/
def readSpout (p : List Byte) (s : State) : State × Answer :=
  let page := paramNat (readParams [.small] p) 0
  if page = 0 then done s (spoutReport s)
  else match axisOfNumber (page - 1) with
    | none => refuse .badParam s
    | some a => match (s.spout.axis a).entry with
      | none => refuse .notFound s
      | some e => done s (axisEntryReport e)

/-! ### Meanings -/

/-- LOAD_AXIS (R91), code 40h. -/
def execLoadAxis (p : List Byte) (s : State) : Host.Outcome State Fault Refusal :=
  s.take (·.serve 0x40#8 12 p (loadAxis p))

/-- READ_SPOUT (R109), code 41h. -/
def execReadSpout (p : List Byte) (s : State) : Host.Outcome State Fault Refusal :=
  s.take (·.serve 0x41#8 1 p (readSpout p))

/-- AXIS_SAMPLE (R93): the axis's event of a period. -/
def execAxisSample (a : Axis) (s : State) : Host.Outcome State Fault Refusal :=
  s.take (axisEvent a)

/-- AXIS_UNKNOWN (R94): the axis's event in which it becomes UNKNOWN. -/
def execAxisUnknown (a : Axis) (s : State) : Host.Outcome State Fault Refusal :=
  s.takeIf (.axisUnknown a) (axisEvent a)

/-- AXIS_RECOVERY (R95): the axis's event in which it recovers. -/
def execAxisRecovery (a : Axis) (s : State) : Host.Outcome State Fault Refusal :=
  s.takeIf (.axisRecovery a) (axisEvent a)

end Sys2Proof.Machine
end

