-- ==== Sys2Proof/Machine/Activation.lean ====
section
/-! DEFINITION. Chapter 4, the plan's steps: activation (R66, R67), the end of a drain (R77, R78), the requests on
the list (R70, R79 to R85), the plan's part of the modes and of LOOP_RESTART (R87, R88); and HATCH, which follows
the active step (R148). -/

namespace Sys2Proof.Machine

/-! ### HATCH (R148) -/

/-- An input holds HATCH_OPEN for the hold and its accepted state is ACTIVE (R148). -/
def Contacts.hatchOpen (c : Contacts) (h : HoldNo) : Bool :=
  c.inputs.toList.any (fun i => decide (i.role = .hatchOpen h) && i.active)

/-- HATCH is judged anew (R148); a judgement that raises it raises a CONTACT notice HATCH_CLOSED. -/
def State.rejudgeHatch (s : State) : State :=
  match s.plan.active with
  | none => s.clearReason .hatch
  | some st =>
    if s.contacts.hatchOpen st.hold then s.clearReason .hatch
    else if s.gate.stopSet.has .hatch then s
    else (s.raiseNotice (.contact (.hatchClosed st.hold))).raiseReason .hatch

/-- The plan hands on a change of its active step: to the spout supervisor (R97) and the contact scanner (R148),
before its own tests. -/
def State.activeStepChanged (s : State) : State := (s.recomputeSpout false).rejudgeHatch

/-! ### Activation (R66) -/

/-- The TOP_UP cap: in force while the active step's top-ups used is 1 or more (R78, R136). -/
def State.setTopUpCap (s : State) (topUps : Nat) : State :=
  s.setGate { s.gate with
    topUpCap := if 1 ≤ topUps then s.holds.vessel.map (·.topUpCap) else none }

/-- The first PENDING step and its position. -/
def Plan.firstPending (p : Plan) : Option (Nat × Step) :=
  match p.steps.findIdx? (fun st => st.state = .pending) with
  | some i => p.steps[i]?.map (fun st => (i, st))
  | none => none

/-- The active step, just made ACTIVE, is tagged and checked (R66, stages 2 to 5). -/
def State.checkActive (s : State) (st : Step) : State :=
  let s := s.setTag (some st.bill)
  match s.activationCheck st with
  | some r => (s.setPlanState (.blocked r)).planNotice .blocked
  | none => ((s.setPlanState .waitSpout).planNotice .activated).testSpout

/-- The activation test (R66), and the activation when it succeeds. -/
def State.activate (s : State) : State :=
  if s.modes.mode = .loading ∧ s.plan.state = .idle then
    match s.plan.firstPending with
    | none => s
    | some (i, st) =>
      let st := { st with state := .active, kinds := .empty }
      let s := s.setPlan { s.plan with steps := s.plan.steps.set i st }
      ((s.setTopUpCap st.topUps).activeStepChanged).checkActive st
  else s

/-! ### The end of a drain (R77, R78) -/

/-- The active step leaves ACTIVE: it is changed, TOP_UP leaves force, the change is handed on, the tag becomes NONE
and the plan enters IDLE (R78, R82, R87). -/
def State.leaveActive (s : State) (f : Step → Step) : State :=
  (((s.modifyActive f).setTopUpCap 0).activeStepChanged.setTag none).setPlanState .idle

/-- The active step leaves ACTIVE as DONE or SKIPPED: it becomes the last ended step (R86). -/
def State.endActive (s : State) (f : Step → Step) : State :=
  (s.setPlan { s.plan with lastEnded := s.plan.activePosition }).leaveActive f

/-- The outcome of a step (R78). -/
def outcomeOf (st : Step) (tolerance : Nat) : StepOutcome :=
  if (tolerance : Int) < st.target - st.credited then .short
  else if st.target + tolerance < st.credited then .over
  else .onTarget

/-- The completion of a drain whose cause is TARGET (R78). -/
def State.drainTarget (s : State) (st : Step) : State :=
  let tolerance := s.holds.vessel.elim 0 (·.tolerance)
  if (tolerance : Int) < st.target - st.credited ∧ st.topUps < 3 then
    ((s.modifyActive (fun x => { x with topUps := x.topUps + 1, kinds := .empty })).setTopUpCap
      (st.topUps + 1)).enterPouring true
  else
    ((s.endActive (fun x => { x with
        state := .done,
        outcome := some (outcomeOf st tolerance, (st.credited : Int) - st.target) })).planNotice
      .stepDone).activate

/-- The completion of a drain (R78). -/
def State.drainDone (s : State) (c : StopCause) : State :=
  match c, s.plan.active with
  | _, none => s
  | .target, some st => s.drainTarget st
  | .held, some _ => s.enterWaitProceed
  | .trim, some _ => (s.setPlanState (.blocked .trim)).planNotice .blocked
  | .cargo, some _ => (s.setPlanState (.blocked .cargo)).planNotice .blocked

/-- The travel a drain needs, in 0.01 mm (R77). -/
def drainTravel (t : WeighTable) : Nat := (t.transitDistance + t.segmentLength) * 100

/-- The plan's test at each odometer advance (R77). -/
def State.drainTest (s : State) : State :=
  match s.plan.state, s.weigher.table with
  | .draining c mark, some t =>
    if drainTravel t ≤ wrapDiff s.weigher.odometer mark then (s.note .drainComplete).drainDone c
    else s
  | _, _ => s

/-! ### Modes and LOOP_RESTART (R87, R88) -/

/-- The plan is told of an entry to LOADING (R87). -/
def State.planLoading (s : State) : State :=
  match s.plan.state with
  | .idle => s.activate
  | .waitSpout => s.testSpout
  | _ => s

/-- The plan's part of END_LOADING (R87). -/
def State.planEndLoading (s : State) : State :=
  match s.plan.active with
  | none => s
  | some _ =>
    (s.leaveActive (fun st => { st with state := .pending, resumeNeeded := true })).planNotice .idle

/-- A pour is under way: POURING, INTERRUPTED, STOPPING or DRAINING (R88, R192). -/
def PlanState.flowing : PlanState → Bool
  | .pouring => true
  | .interrupted => true
  | .stopping _ => true
  | .draining _ _ => true
  | _ => false

/-- The plan's part of LOOP_RESTART (R88). PLAN is raised as POURING is left (R64). -/
def State.planRestart (s : State) : State :=
  if s.plan.state.flowing then
    (((s.modifyActive (fun st => { st with resumeNeeded := true })).raisePlan).setPlanState
      .waitProceed).planNotice .restarted
  else s

/-! ### Requests on the list (R79 to R84) -/

/-- A step as it is added (R62). -/
def newStep (hold : HoldNo) (bill : BillNo) (target : Nat) (breakFlag : Bool) : Step :=
  { hold, bill, target, breakFlag, state := .pending, credited := 0, topUps := 0, outcome := none,
    resumeNeeded := false, breakPassed := false, kinds := .empty }

/-- The record is OPEN (R152). -/
def BillRecord.isOpen : BillRecord → Bool
  | .opened _ => true
  | _ => false

/-- The step that the four fields of APPEND_STEP and INSERT_STEP describe, if none of R79's BAD_PARAM conditions
holds. -/
def State.readStep (s : State) (hold bill target breakFlag : Nat) : Option Step :=
  match numbered 9 hold, numbered 12 bill, s.holds.vessel with
  | some h, some b, some v =>
    if (s.holds.holds.get h).isSome ∧ (s.bills.records.get b).isOpen ∧ 1 ≤ target ∧ target ≤ v.cargoLimit ∧ breakFlag ≤ 1 then
      some (newStep h b target (breakFlag == 1))
    else none
  | _, _, _ => none

/-- A step is placed in the list at a position, and the request is answered with it; activation follows (R79). -/
def State.placeStep (s : State) (i : Nat) (st : Step) : State × Answer :=
  done (s.setPlan { s.plan with steps := s.plan.steps.insertIdx i st }).activate [.num 1 i]

/-- APPEND_STEP's work (R79). -/
def appendStep (p : List Byte) (s : State) : State × Answer :=
  let v := readParams [.small, .small, .unsigned 4, .small] p
  match s.readStep (paramNat v 0) (paramNat v 1) (paramNat v 2) (paramNat v 3) with
  | none => refuse .badParam s
  | some st =>
    if Config.stepLimit ≤ s.plan.steps.length then refuse .storeFull s
    else s.placeStep s.plan.steps.length st

/-- A new step may stand at the position (R79): not beyond the end, and after every step that is not PENDING. -/
def Plan.mayPlace (p : Plan) (i : Nat) : Bool :=
  decide (i ≤ p.steps.length) && (p.steps.drop i).all (fun st => st.state = .pending)

/-- INSERT_STEP's work (R79). -/
def insertStep (p : List Byte) (s : State) : State × Answer :=
  let v := readParams [.unsigned 1, .small, .small, .unsigned 4, .small] p
  match s.readStep (paramNat v 1) (paramNat v 2) (paramNat v 3) (paramNat v 4) with
  | none => refuse .badParam s
  | some st =>
    if Config.stepLimit ≤ s.plan.steps.length then refuse .storeFull s
    else if !s.plan.mayPlace (paramNat v 0) then refuse .position s
    else s.placeStep (paramNat v 0) st

/-- DELETE_STEP's work (R80). -/
def deleteStep (p : List Byte) (s : State) : State × Answer :=
  let i := paramNat (readParams [.unsigned 1] p) 0
  match s.plan.steps[i]? with
  | none => refuse .notFound s
  | some st =>
    if st.state ≠ .pending then refuse .wrongState s
    else done (s.setPlan { s.plan with steps := s.plan.steps.eraseIdx i })

/-- What the plan does once the ACTIVE step's target is replaced (R81). -/
def State.targetReplaced (s : State) : State :=
  match s.plan.state with
  | .blocked _ => ((s.setPlanState .waitSpout).planNotice .activated).testSpout
  | .pouring => if s.anticipationMet then s.enterStopping .target else s
  | _ => s

/-- SET_TARGET's work (R81). Without a vessel record there is no cargo limit to lie within: BAD_PARAM. -/
def setTarget (p : List Byte) (s : State) : State × Answer :=
  let v := readParams [.unsigned 1, .unsigned 4] p
  let i := paramNat v 0
  let target := paramNat v 1
  match s.plan.steps[i]? with
  | none => refuse .notFound s
  | some st =>
    if target < 1 ∨ s.holds.vessel.elim 0 (·.cargoLimit) < target then refuse .badParam s
    else
      let changed := s.setPlan { s.plan with steps := s.plan.steps.set i { st with target := target } }
      match st.state with
      | .pending => done changed
      | .active =>
        if (s.activationCheck { st with target := target }).isSome then refuse .trimLimit s
        else done changed.targetReplaced
      | _ => refuse .wrongState s

/-- The list with the PENDING step at a position made SKIPPED and moved behind the last DONE or SKIPPED step
(R82). -/
def skipPending (steps : List Step) (i : Nat) (st : Step) : List Step :=
  let ended := steps.countP (fun x => decide (x.state = .done ∨ x.state = .skipped))
  (steps.eraseIdx i).insertIdx ended { st with state := .skipped }

/-- The active step may be skipped in this plan state (R82). -/
def PlanState.skippable : PlanState → Bool
  | .blocked _ => true
  | .waitSpout => true
  | .waitProceed => true
  | _ => false

/-- SKIP_STEP's work (R82). -/
def skipStep (p : List Byte) (s : State) : State × Answer :=
  let i := paramNat (readParams [.unsigned 1] p) 0
  match s.plan.steps[i]? with
  | none => refuse .notFound s
  | some st =>
    match st.state with
    | .pending => done (s.setPlan { s.plan with steps := skipPending s.plan.steps i st })
    | .active =>
      if s.plan.state.skippable then
        done ((s.endActive (fun x => { x with state := .skipped })).planNotice .stepSkipped).activate
      else refuse .stepActive s
    | _ => refuse .wrongState s

/-- HOLD_PLAN's work (R83). -/
def holdPlan (_ : List Byte) (s : State) : State × Answer :=
  match s.plan.state with
  | .pouring => done (s.enterStopping .held)
  | .interrupted => done (s.enterStopping .held)
  | .waitSpout => done (s.modifyActive (fun st => { st with resumeNeeded := true }))
  | _ => refuse .wrongState s

/-- PROCEED's work (R70). -/
def proceed (_ : List Byte) (s : State) : State × Answer :=
  if s.modes.mode ≠ .loading then refuse .wrongMode s
  else if s.plan.state ≠ .waitProceed then refuse .wrongState s
  else
    let s := s.modifyActive (fun st => { st with resumeNeeded := false, breakPassed := true })
    if s.spoutReady then done (s.enterPouring false)
    else done ((s.setPlanState .waitSpout).planNotice .waitSpout)

/-- The steps that PRUNE_PLAN leaves (R84). -/
def prunedSteps (steps : List Step) : List Step :=
  steps.dropWhile (fun x => decide (x.state = .done ∨ x.state = .skipped))

/-- PRUNE_PLAN's work (R84); the last ended step is then none (R86). -/
def prunePlan (_ : List Byte) (s : State) : State × Answer :=
  let left := prunedSteps s.plan.steps
  done (s.setPlan { s.plan with steps := left, lastEnded := none })
    [.num 1 ((s.plan.steps.length - left.length : Nat) : Int)]

/-! ### READ_PLAN (R85) -/

/-- A step's fields (R62, R85). -/
def stepReport (st : Step) : List Field :=
  [.small (st.hold.val + 1), .small (st.bill.val + 1), .num 4 st.target, .flag st.breakFlag,
   .small st.state.number, .num 4 st.credited, .small st.topUps,
   .optSmall (st.outcome.map (·.1.number)), .optInt 5 (st.outcome.map (·.2)),
   .flag st.resumeNeeded, .flag st.breakPassed, .reasons st.kinds]

/-- The drain mark, and the travel still needed in DRAINING (R85). -/
def drainReport (s : State) : List Field :=
  match s.plan.state with
  | .draining _ mark =>
    [.optNat 5 (some mark.toNat),
     .num 4 ((s.weigher.table.elim 0 drainTravel : Nat) - (wrapDiff s.weigher.odometer mark : Int))]
  | _ => [.optNat 5 none]

/-- READ_PLAN's data (R85). The mark of an absent step is one character of all ones (log 4). -/
def planReport (s : State) (i : Nat) : List Field :=
  planStateFields s.plan.state
  ++ [.num 1 s.plan.steps.length, .optNat 1 s.plan.activePosition]
  ++ drainReport s
  ++ (match s.plan.steps[i]? with
      | some st => stepReport st
      | none => [.optNat 1 none])

/-- READ_PLAN's work (R85). -/
def readPlan (p : List Byte) (s : State) : State × Answer :=
  let i := paramNat (readParams [.unsigned 1] p) 0
  if 31 < i then refuse .badParam s else done s (planReport s i)

/-! ### Meanings -/

/-- APPEND_STEP (R79), code 30h. -/
def execAppendStep (p : List Byte) (s : State) : Host.Outcome State Fault Refusal :=
  s.take (·.serve 0x30#8 6 p (appendStep p))

/-- INSERT_STEP (R79), code 31h. -/
def execInsertStep (p : List Byte) (s : State) : Host.Outcome State Fault Refusal :=
  s.take (·.serve 0x31#8 7 p (insertStep p))

/-- DELETE_STEP (R80), code 32h. -/
def execDeleteStep (p : List Byte) (s : State) : Host.Outcome State Fault Refusal :=
  s.take (·.serve 0x32#8 1 p (deleteStep p))

/-- SET_TARGET (R81), code 33h. -/
def execSetTarget (p : List Byte) (s : State) : Host.Outcome State Fault Refusal :=
  s.take (·.serve 0x33#8 5 p (setTarget p))

/-- SKIP_STEP (R82), code 34h. -/
def execSkipStep (p : List Byte) (s : State) : Host.Outcome State Fault Refusal :=
  s.take (·.serve 0x34#8 1 p (skipStep p))

/-- HOLD_PLAN (R83), code 35h. -/
def execHoldPlan (p : List Byte) (s : State) : Host.Outcome State Fault Refusal :=
  s.take (·.serve 0x35#8 0 p (holdPlan p))

/-- PROCEED (R70), code 36h. -/
def execProceed (p : List Byte) (s : State) : Host.Outcome State Fault Refusal :=
  s.take (·.serve 0x36#8 0 p (proceed p))

/-- PRUNE_PLAN (R84), code 37h. -/
def execPrunePlan (p : List Byte) (s : State) : Host.Outcome State Fault Refusal :=
  s.take (·.serve 0x37#8 0 p (prunePlan p))

/-- READ_PLAN (R85), code 38h. -/
def execReadPlan (p : List Byte) (s : State) : Host.Outcome State Fault Refusal :=
  s.take (·.serve 0x38#8 1 p (readPlan p))

end Sys2Proof.Machine
end

