-- ==== Sys2Proof/Machine/Vessel.lean ====
section
/-! DEFINITION. Chapter 3, the requests and samples of the hold table: LOAD_VESSEL (R44), LOAD_HOLD (R46, R47),
READ_HOLD (R59) and the deck samples (R49, R50, R52). -/

namespace Sys2Proof.Machine

/-! ### LOAD_VESSEL (R43, R44) -/

/-- The bound of the moments of R43, in kg·dm. -/
def momentBound : Int := 1000000000000000

/-- The record LOAD_VESSEL carries, in the order of R43. -/
def readVessel (p : List Byte) : VesselRecord :=
  let v := readParams [.signed 8, .signed 8, .signed 8, .unsigned 4, .unsigned 2, .unsigned 2,
    .unsigned 2, .unsigned 2, .unsigned 2, .unsigned 2, .unsigned 2, .unsigned 1, .unsigned 2,
    .unsigned 2] p
  { baseMoment := param v 0, aftLimit := param v 1, forwardLimit := param v 2,
    cargoLimit := paramNat v 3, defaultDensity := paramNat v 4, allowance := paramNat v 5,
    tolerance := paramNat v 6, topUpCap := paramNat v 7, forePosition := paramNat v 8,
    aftPosition := paramNat v 9, coamingClearance := paramNat v 10, highDropSlope := paramNat v 11,
    highDropFloor := paramNat v 12, tipRadius := paramNat v 13 }

/-- Every field lies in its range, the aft limit below the forward one, the sensors apart (R43, R44). -/
def VesselRecord.inRange (v : VesselRecord) : Bool :=
  within (-momentBound) momentBound v.baseMoment && within (-momentBound) momentBound v.aftLimit
  && within (-momentBound) momentBound v.forwardLimit && decide (v.aftLimit < v.forwardLimit)
  && within 1 40000000 v.cargoLimit && within 300 1200 v.defaultDensity
  && within 0 50000 v.allowance && within 0 20000 v.tolerance && within 10 1000 v.topUpCap
  && within 0 25000 v.forePosition && within 0 25000 v.aftPosition
  && decide (v.forePosition ≠ v.aftPosition)
  && within 0 5000 v.coamingClearance && within 1 255 v.highDropSlope
  && within 0 999 v.highDropFloor && within 0 2000 v.tipRadius

/-- LOAD_VESSEL's work (R44): the record is replaced, then the heights, the sums and the spout follow. -/
def loadVessel (p : List Byte) (s : State) : State × Answer :=
  if s.modes.mode ≠ .setup then refuse .wrongMode s
  else
    let v := readVessel p
    if !v.inRange then refuse .badParam s
    else
      let t := { s.holds with vessel := some v }
      done ((s.setHolds t.recomputeHeights.reweigh).recomputeSpout false)

/-! ### LOAD_HOLD (R45 to R47) -/

/-- The static fields LOAD_HOLD carries, in the order of R45, after the character of number and flag. -/
def readHoldStatic (p : List Byte) : HoldStatic :=
  let v := readParams [.unsigned 2, .unsigned 2, .unsigned 2, .unsigned 2, .unsigned 2, .unsigned 2,
    .unsigned 2, .signed 2, .unsigned 2, .unsigned 2, .unsigned 2, .unsigned 4] p.tail
  { travelMin := paramNat v 0, travelMax := paramNat v 1, reachMin := paramNat v 2,
    reachMax := paramNat v 3, coaming := paramNat v 4, depth := paramNat v 5, area := paramNat v 6,
    lever := param v 7, heap := paramNat v 8, minDrop := paramNat v 9, maxDrop := paramNat v 10,
    preload := paramNat v 11 }

/-- Every static field lies in its range (R45). -/
def HoldStatic.inRange (h : HoldStatic) : Bool :=
  within 0 25000 h.travelMin && within 0 25000 h.travelMax && decide (h.travelMin < h.travelMax)
  && within 0 40000 h.reachMin && within 0 40000 h.reachMax && decide (h.reachMin < h.reachMax)
  && within 0 5000 h.coaming && within 1000 40000 h.depth && within 1 20000 h.area
  && within (-1500) 1500 h.lever && within 0 5000 h.heap && within 0 29900 h.minDrop
  && within 100 30000 h.maxDrop && decide (h.minDrop + 100 ≤ h.maxDrop)
  && within 0 40000000 h.preload

/-- Two windows overlap (R46): bounds included. -/
def HoldStatic.overlaps (a b : HoldStatic) : Bool :=
  decide (a.travelMin ≤ b.travelMax ∧ b.travelMin ≤ a.travelMax
    ∧ a.reachMin ≤ b.reachMax ∧ b.reachMin ≤ a.reachMax)

/-- The window overlaps that of another present hold (R46). -/
def HoldTable.overlapsOther (t : HoldTable) (h : HoldNo) (st : HoldStatic) : Bool :=
  (List.finRange 9).any (fun g => decide (g ≠ h) &&
    (t.holds.get g).any (fun r => st.overlaps r.static))

/-- A hold as LOAD_HOLD makes it present (R45, R47). -/
def HoldTable.freshHold (t : HoldTable) (v : VesselRecord) (st : HoldStatic) : HoldRecord :=
  t.relevel v
    { static := st, reference := (st.travelMin + st.travelMax) / 2, credited := 0,
      volume := litres st.preload v.defaultDensity, offset := none, deckLevel := 0, floor := 0,
      coamingTop := 0, fill := 0, surface := 0 }

/-- A hold's record is set or discarded; the clear level, the sums and the spout follow (R47). -/
def State.putHold (s : State) (h : HoldNo) (r : Option HoldRecord) : State :=
  (s.setHolds ({ s.holds with holds := s.holds.holds.set h r }.reclear.reweigh)).recomputeSpout false

/-- A PENDING step names the hold (R46). -/
def Plan.holdPlanned (p : Plan) (h : HoldNo) : Bool := p.anyPending (fun st => decide (st.hold = h))

/-- LOAD_HOLD's work (R46, R47). -/
def loadHold (p : List Byte) (s : State) : State × Answer :=
  let v := readParams [.small, .small] p
  if s.modes.mode ≠ .setup then refuse .wrongMode s
  else match numbered 9 (paramNat v 0) with
    | none => refuse .badParam s
    | some h =>
      if 1 < paramNat v 1 then refuse .badParam s
      else if paramNat v 1 = 1 then
        match s.holds.vessel with
        | none => refuse .wrongState s
        | some vessel =>
          let st := readHoldStatic p
          if !st.inRange || s.holds.overlapsOther h st then refuse .badParam s
          else done (s.putHold h (some (s.holds.freshHold vessel st)))
      else if s.plan.holdPlanned h then refuse .wrongState s
      else done (s.putHold h none)

/-! ### READ_HOLD (R59) -/

/-- The vessel record's fields in the order of R43. -/
def vesselReport (v : VesselRecord) : List Field :=
  [.num 8 v.baseMoment, .num 8 v.aftLimit, .num 8 v.forwardLimit, .num 4 v.cargoLimit,
   .num 2 v.defaultDensity, .num 2 v.allowance, .num 2 v.tolerance, .num 2 v.topUpCap,
   .num 2 v.forePosition, .num 2 v.aftPosition, .num 2 v.coamingClearance, .num 1 v.highDropSlope,
   .num 2 v.highDropFloor, .num 2 v.tipRadius]

/-- Number 0, page 1 (R59). The held deck values are heights, saturated as R200 says (log 4). -/
def deckReport (s : State) : List Field :=
  [.height s.holds.fore, .height s.holds.aft, .flag s.holds.foreLost, .flag s.holds.aftLost,
   .flag s.holds.established, .flag (s.gate.stopSet.has .deck), .optHeight s.holds.clearLevel,
   .optInt 8 s.holds.moment, .optNat 5 s.holds.cargo]

/-- A hold's static fields and reference position (R59). -/
def holdReport (r : HoldRecord) : List Field :=
  let h := r.static
  [.flag true, .num 2 h.travelMin, .num 2 h.travelMax, .num 2 h.reachMin, .num 2 h.reachMax,
   .num 2 h.coaming, .num 2 h.depth, .num 2 h.area, .num 2 h.lever, .num 2 h.heap, .num 2 h.minDrop,
   .num 2 h.maxDrop, .num 4 h.preload, .num 2 r.reference]

/-- A hold's dynamic fields and heights (R59, R200): the fill is sent in 3 characters, saturated. -/
def holdLevels (r : HoldRecord) : List Field :=
  [.num 4 r.credited, .num 4 r.volume, .optNat 2 r.offset, .height r.deckLevel, .height r.floor,
   .height r.coamingTop, .num 3 (min 16777215 r.fill), .height r.surface]

/-- READ_HOLD's work (R59). A record that is not loaded or present is answered with its number and mark (R200). -/
def readHold (p : List Byte) (s : State) : State × Answer :=
  let v := readParams [.small, .small] p
  let number := paramNat v 0
  let page := paramNat v 1
  if 9 < number ∨ 1 < page then refuse .badParam s
  else match numbered 9 number with
    | none =>
      if page = 1 then done s (deckReport s)
      else match s.holds.vessel with
        | some r => done s (.flag true :: vesselReport r)
        | none => done s [.small 0, .flag false]
    | some h =>
      match s.holds.holds.get h with
      | some r => done s (if page = 0 then holdReport r else holdLevels r)
      | none =>
        if page = 0 then done s [.small number, .flag false] else refuse .notFound s

/-! ### Deck samples (R49, R50, R52) -/

/-- The sample binding of a deck ranger (R49). -/
def deckBinding : Deck → SampleBinding
  | .fore => .deckFore
  | .aft => .deckAft

/-- A ranger's value is held (R49): the deck is established once both have delivered. -/
def HoldTable.holdDeck (t : HoldTable) (d : Deck) (v : Int) : HoldTable :=
  let t := match d with
    | .fore => { t with fore := v, foreSeen := true }
    | .aft => { t with aft := v, aftSeen := true }
  { t with established := t.established || (t.foreSeen && t.aftSeen) }

/-- A ranger's LOST mark is set or cleared (R49, R50). -/
def HoldTable.markDeck (t : HoldTable) (d : Deck) (lost : Bool) : HoldTable :=
  match d with
  | .fore => { t with foreLost := lost }
  | .aft => { t with aftLost := lost }

/-- The DECK reason's condition (R50). -/
def HoldTable.deckUnsure (t : HoldTable) : Bool := t.foreLost || t.aftLost || !t.established

/-- The hold table takes a value (R49), with its LOST mark cleared where the sample is a returned one, and recomputes
(R52). -/
def State.acceptDeck (s : State) (d : Deck) (v : Half) (returned : Bool) : State :=
  let t := s.holds.holdDeck d v.toInt
  let t := if returned then t.markDeck d false else t
  (s.setHolds t.recomputeHeights).recomputeSpout false

/-- The DECK reason follows its condition (R50). -/
def State.judgeDeck (s : State) : State := s.setReason .deck s.holds.deckUnsure

/-- A deck ranger's event of a period: takes the oldest state handed for its binding. -/
def deckEvent (d : Deck) (s : State) : State :=
  match s.waitingFor (deckBinding d) with
  | [] => s
  | h :: _ =>
    let s := s.taken (deckBinding d)
    match h with
    | .fresh v => (s.acceptDeck d v false).judgeDeck
    | .returned v => (s.acceptDeck d v true).judgeDeck
    | .newlyLost => (s.setHolds (s.holds.markDeck d true)).judgeDeck
    | .notFresh => s
    | .lost => s

/-! ### Meanings -/

/-- LOAD_VESSEL (R44), code 20h. -/
def execLoadVessel (p : List Byte) (s : State) : Host.Outcome State Fault Refusal :=
  s.take (·.serve 0x20#8 47 p (loadVessel p))

/-- LOAD_HOLD (R46), code 21h. -/
def execLoadHold (p : List Byte) (s : State) : Host.Outcome State Fault Refusal :=
  s.take (·.serve 0x21#8 27 p (loadHold p))

/-- READ_HOLD (R59), code 22h. -/
def execReadHold (p : List Byte) (s : State) : Host.Outcome State Fault Refusal :=
  s.take (·.serve 0x22#8 1 p (readHold p))

/-- DECK_SAMPLE (R49, R52): the deck ranger's event of a period. -/
def execDeckSample (d : Deck) (s : State) : Host.Outcome State Fault Refusal :=
  s.take (deckEvent d)

end Sys2Proof.Machine
end

