-- ==== Sys2Proof/Machine/Crediting.lean ====
section
/-! DEFINITION. Chapter 2, discharge and crediting (R31 to R39), and the odometer advance that drives them (R24,
R26, R77). -/

namespace Sys2Proof.Machine

/-! ### The destination (R33) -/

/-- The receiving hold of a discharge, or none for SPILL (R33). -/
def State.destination (s : State) : Option HoldNo :=
  if s.spout.position = .unknown then none
  else match s.holds.vessel, s.spout.travel.accepted, s.spout.reach.accepted with
    | some _, some x, some y =>
      (List.finRange 9).find? (fun h =>
        ((s.holds.holds.get h).map (·.static)).any (inWindow · x y))
    | _, _, _ => none

/-! ### The stages of crediting (R34 to R38) -/

/-- The density by which a parcel's litres are counted (R34): its bill's, or the vessel record's default. -/
def State.densityOf (s : State) (lot : Option BillNo) : Nat :=
  match lot with
  | none => s.holds.vessel.elim 0 (·.defaultDensity)
  | some n => match (s.bills.records.get n).lot? with
    | some l => l.density
    | none => Config.densityOfFreeBill n

/-- The hold is credited (R34). -/
def State.creditHold (s : State) (dest : Option HoldNo) (p : Parcel) : State :=
  match dest with
  | none => s
  | some h => s.setHolds (s.holds.modifyHold h (·.credit p.mass (s.densityOf p.lot)))

/-- The bill or the unassigned account is settled (R35, R36). -/
def State.settle (s : State) (dest : Option HoldNo) (p : Parcel) : State :=
  match p.lot with
  | some n => s.modifyBill n (Lot.discharge p.estimated dest p.mass)
  | none =>
    let a := s.weigher.account
    let spill := if dest.isNone then a.spill + toCount p.mass else a.spill
    s.setWeigher { s.weigher with
      account := { a with inTransit := a.inTransit - toCount p.mass, spill := spill } }

/-- A step's credited mass rises by k, saturating (R37, R62). -/
def Step.credit (k : Nat) (st : Step) : Step :=
  { st with credited := satAdd Config.max32 st.credited k }

/-- The active step is credited, or a PLAN notice MISDIRECTED is raised (R37). -/
def State.creditStep (s : State) (dest : Option HoldNo) (p : Parcel) : State :=
  match dest, s.plan.active with
  | some h, some st =>
    if p.lot = some st.bill then
      if h = st.hold then s.modifyActive (Step.credit p.mass) else s.planNotice .misdirected
    else s
  | _, _ => s

/-- A BILL notice SPILL is raised where the mass of a bill went to SPILL (R38). -/
def State.noticeSpill (s : State) (dest : Option HoldNo) (p : Parcel) : State :=
  match dest, p.lot with
  | none, some n => s.raiseNotice (.bill n .spill)
  | _, _ => s

/-- The hold table and the spout supervisor follow a credit (R39, R57). -/
def State.followCredit (s : State) (dest : Option HoldNo) : State :=
  match dest with
  | none => s
  | some h => (s.setHolds (s.holds.modifyHold h HoldRecord.derive).reweigh).recomputeSpout false

/-- One discharged parcel is credited (R32 to R39). -/
def State.creditParcel (s : State) (p : Parcel) : State :=
  if p.mass = 0 then s
  else
    let dest := s.destination
    (((((s.creditHold dest p).settle dest p).creditStep dest p).noticeSpill dest p).followCredit
      dest).planCredit

/-! ### The advance (R24, R26, R31, R77) -/

/-- The discharge part of an advance (R31): at most `fuel` parcels, the number of closed ones as it starts. A parcel
closed meanwhile has travelled nothing. -/
def State.discharge : Nat → State → State
  | 0, s => s
  | fuel + 1, s =>
    match s.queue.closed, s.weigher.table with
    | c :: rest, some t =>
      if t.transitDistance * 100 ≤ wrapDiff s.weigher.odometer c.closeOdometer then
        State.discharge fuel
          (((s.setQueue { s.queue with closed := rest }).note .parcelDischarge).creditParcel c.parcel)
      else s
    | _, _ => s

/-- The odometer advances (R3, R9). -/
def State.moveBelt (s : State) (travel : Nat) : State :=
  s.setWeigher { s.weigher with odometer := s.weigher.odometer + toCount travel }

/-- The transit queue takes an advance of non-zero travel in its three parts (R24, R26). The odometer stands after
the advance (R3); `before` is what it was. -/
def State.queueAdvance (s : State) (before : Count32) : State :=
  let s := s.ensureOpen before
  ((s.discharge s.queue.closed.length).makeDeferredClose).segmentTest

/-- An odometer advance (R11): the transit queue takes it, then the plan makes its drain test (R77). -/
def State.advance (s : State) (before : Count32) (travel : Nat) : State :=
  (if travel = 0 then s else s.queueAdvance before).drainTest

end Sys2Proof.Machine
end

