-- ==== Sys2Proof/Machine/Weigher.lean ====
section
/-! DEFINITION. Chapter 1, Belt Weighing (R1 to R21): the weighing event, zero calibration and the weigher's
requests. -/

namespace Sys2Proof.Machine

/-! ### Corrected load (R4) -/

/-- The corrected load and NEG_DRIFT of a held raw load (R4). -/
def correctedLoad (t : WeighTable) (held : Int) : Nat × Bool :=
  let r := divNearest ((held - t.zero) * t.span) 32768
  if r.natAbs ≤ t.deadband then (0, false)
  else if r < 0 then (0, true)
  else (r.toNat, false)

/-- The weigher with its corrected load recomputed (R4). -/
def Weigher.recorrect (w : Weigher) (t : WeighTable) : Weigher :=
  let c := correctedLoad t w.heldRaw
  { w with corrected := c.1, negDrift := c.2 }

/-- The WEIGH notices of OVERRANGE and NEG_DRIFT where they have risen (R4, R21). -/
def State.driftNotices (s : State) (before : Weigher) : State :=
  let s := if s.weigher.overrange ∧ ¬ before.overrange then s.raiseNotice (.weigh .overrange) else s
  if s.weigher.negDrift ∧ ¬ before.negDrift then s.raiseNotice (.weigh .negDrift) else s

/-- A SCALE_LOAD sample is accepted (R4). -/
def State.acceptScale (s : State) (t : WeighTable) (v : Half) : State :=
  let w := { s.weigher with
    heldRaw := saturate (-2000) 20000 v.toInt, overrange := !within (-2000) 20000 v.toInt }
  (s.setWeigher (w.recorrect t)).driftNotices s.weigher

/-! ### The end of a zero calibration (R18, R19) -/

/-- The calibration ends with an outcome: IDLE, ZEROING cleared, then the WEIGH notice (R18, R19). -/
def State.endZero (s : State) (o : ZeroOutcome) (proposed : Option Int) (e : WeighEvent) : State :=
  let z := { s.weigher.zeroCal with running := false, outcome := o, proposed := proposed }
  ((s.setWeigher { s.weigher with zeroCal := z }).clearReason .zeroing).raiseNotice (.weigh e)

/-- A RUNNING calibration ends with ZERO_ABORTED (R19). -/
def State.abortZero (s : State) : State :=
  if s.weigher.zeroCal.running then
    s.endZero .zeroAborted s.weigher.zeroCal.proposed .zeroAborted
  else s

/-- The sensor behind WEIGH is lost (R5, R7, R8): the notice, WEIGH, then the end of a running calibration. That the
notice is raised before WEIGH, so that a pour interrupted by it has WEIGH before PLAN in the notice queue where neither
is queued, is the model's choice (DESIGN CHOICE, log 42). WEIGH is raised before ZEROING is cleared, so that the plan
sees the stop set as the event leaves it (DEDUCED, log 12). -/
def State.sensorLost (s : State) (e : WeighEvent) : State :=
  ((s.raiseNotice (.weigh e)).raiseReason .weigh).abortZero

/-! ### The scale part (R1, R4, R5) -/

/-- A SCALE_LOAD sample is used only while the weigh table is loaded (R1). -/
def State.useScale (s : State) (v : Half) : State :=
  match s.weigher.table with
  | some t => s.acceptScale t v
  | none => s

/-- The scale part of a weighing event (R3, R5). The notice of a return is raised before WEIGH is judged (DESIGN CHOICE,
log 42). -/
def State.scalePart (s : State) (h : Handed) : State :=
  match h with
  | .fresh v => s.useScale v
  | .returned v =>
    ((s.setWeigher { s.weigher with scaleLost := false }).useScale v).raiseNotice (.weigh .scaleReturned)
  | .newlyLost => (s.setWeigher { s.weigher with scaleLost := true }).sensorLost .scaleLost
  | .notFresh => s
  | .lost => s

/-! ### The pulse part (R6 to R8) -/

/-- The travel count of a period that formed travel, and whether it is the catch-up travel (R13). -/
structure Travel where
  count : Nat
  catchUp : Bool
deriving DecidableEq, Repr

/-- The accepted limit (R7). -/
def pulseLimit (maxDelta gap : Nat) : Nat := min 65535 (maxDelta * gap)

/-- A sample is judged in TRACKING (R7). Its travel is catch-up travel where the catch-up flag is set, also where a
LOOP_RESTART has kept the flag (DESIGN CHOICE, log 44). -/
def State.judgePulses (s : State) (t : WeighTable) (v : Half) : State × Option Travel :=
  let w := s.weigher
  let delta := pulseDiff v w.pulseRef
  let limit := pulseLimit t.maxDelta w.gap
  let moved := { w with pulseRef := v, gap := 0 }
  if delta ≤ limit then
    (s.setWeigher { moved with lastDelta := delta / w.gap, implausible := 0, catchUp := false },
      some ⟨delta, w.catchUp⟩)
  else if w.implausible + 1 < 3 then
    (s.setWeigher { moved with implausible := w.implausible + 1 },
      some ⟨min limit (w.lastDelta * w.gap), false⟩)
  else
    (((s.setWeigher { moved with implausible := 0, tracker := .lost }).note
      .pulsesImplausibleLost).sensorLost .pulsesLost, none)

/-- A sample re-arms a LOST tracker (R8). The implausible count keeps its value (DESIGN CHOICE, log 34), and the notice
is raised before WEIGH is judged (DESIGN CHOICE, log 42). -/
def State.rearm (s : State) (v : Half) : State :=
  ((s.setWeigher { s.weigher with pulseRef := v, gap := 0, catchUp := true, tracker := .tracking }).note
    .pulseRearm).raiseNotice (.weigh .pulsesReturned)

/-- A sample gives an UNARMED tracker its reference (R6), and the pulse gap is 0 (DEDUCED, log 15). -/
def State.armPulses (s : State) (v : Half) : State :=
  s.setWeigher { s.weigher with pulseRef := v, gap := 0, tracker := .tracking }

/-- A fresh or returned sample by the tracker's state (R6). -/
def State.takePulses (s : State) (t : WeighTable) (v : Half) : State × Option Travel :=
  match s.weigher.tracker with
  | .unarmed => (s.armPulses v, none)
  | .tracking => s.judgePulses t v
  | .lost => (s.rearm v, none)

/-- The binding is newly LOST (R8), in any tracker state, LOST among them (DEDUCED, log 16). The implausible count keeps
its value (DESIGN CHOICE, log 34). -/
def State.losePulses (s : State) : State :=
  (s.setWeigher { s.weigher with tracker := .lost }).sensorLost .pulsesLost

/-- The pulse part while the weigh table is not loaded (R1): the loss and the return alone are taken. -/
def State.pulsesUnloaded (s : State) (h : Handed) : State :=
  match h with
  | .newlyLost => s.losePulses
  | .returned _ =>
    (s.setWeigher { s.weigher with tracker := .unarmed }).raiseNotice (.weigh .pulsesReturned)
  | _ => s

/-- The pulse part of a weighing event (R3, R6): the pulse gap grows at the start of each. -/
def State.pulsePart (s : State) (h : Handed) : State × Option Travel :=
  let s := s.setWeigher { s.weigher with gap := satAdd 65535 s.weigher.gap 1 }
  match s.weigher.table with
  | none => (s.pulsesUnloaded h, none)
  | some t =>
    match h with
    | .fresh v => s.takePulses t v
    | .returned v => s.takePulses t v
    | .newlyLost => (s.losePulses, none)
    | .notFresh => (s, none)
    | .lost => (s, none)

/-- WEIGH follows its condition (R15). -/
def State.judgeWeigh (s : State) : State :=
  s.setReason .weigh (s.weigher.scaleLost || decide (s.weigher.tracker = .lost))

/-! ### The mass part (R9 to R13, R18) -/

/-- The calibration completes (R18). -/
def State.completeZero (s : State) (t : WeighTable) : State :=
  let z := s.weigher.zeroCal
  let proposed := divNearest z.loadTravelSum z.travelSum
  let s := s.note .zeroComplete
  if (proposed - t.zero).natAbs ≤ t.zeroLimit ∧ within (-2000) 2000 proposed then
    let t := { t with zero := proposed }
    let s := (s.setWeigher ({ s.weigher with table := some t }.recorrect t)).driftNotices s.weigher
    s.endZero .zeroDone (some proposed) .zeroDone
  else s.endZero .zeroRejected (some proposed) .zeroRejected

/-- A period's travel is added to the sums of a RUNNING calibration, and completion is tested (R18). -/
def State.calibrate (s : State) (t : WeighTable) (travel : Nat) : State :=
  let z := s.weigher.zeroCal
  if z.running then
    let z := { z with loadTravelSum := z.loadTravelSum + s.weigher.heldRaw * travel,
                      travelSum := z.travelSum + travel }
    let s := s.setWeigher { s.weigher with zeroCal := z }
    if t.beltLength * 100 ≤ z.travelSum then s.completeZero t else s
  else s

/-- The carry reaches the queue and its account, and the plan makes its test (R11, R72). -/
def State.handCarry (s : State) (before : Count32) (k : Nat) : State :=
  if k = 0 then s else (s.carry before k).planCarry

/-- The mass part of a weighing event (R3, R10, R11, R13, R18): the odometer is advanced and the residue updated, and
then the results are handed on (log 14). -/
def State.massPart (s : State) (t : WeighTable) (tr : Travel) : State :=
  let travel := tr.count * t.pulsePitch
  let sum := s.weigher.residue + s.weigher.corrected * travel
  let before := s.weigher.odometer
  let s := s.moveBelt travel
  let s := s.setWeigher { s.weigher with residue := sum % 1000000 }
  let s := s.setEstimated (s.weigher.scaleLost || tr.catchUp)
  ((s.handCarry before (sum / 1000000)).advance before travel).calibrate t travel

/-- The weighing event with the states of its two bindings (R3). -/
def State.weigh (s : State) (scale pulses : Handed) : State :=
  let r := (s.scalePart scale).pulsePart pulses
  let s := r.1.judgeWeigh
  match r.2, s.weigher.table with
  | some tr, some t => s.massPart t tr
  | _, _ => s

/-- The weigher's event of a period: takes the oldest states handed for its two bindings. -/
def weighingEvent (s : State) : State :=
  match s.waitingFor .scaleLoad, s.waitingFor .beltPulses with
  | a :: _, b :: _ => ((s.taken .scaleLoad).taken .beltPulses).weigh a b
  | _, _ => s

/-! ### LOAD_WEIGH (R1, R2) -/

/-- The table LOAD_WEIGH carries, in the order of R1. -/
def readWeighTable (p : List Byte) : WeighTable :=
  let v := readParams [.signed 2, .unsigned 2, .unsigned 1, .unsigned 2, .unsigned 2, .unsigned 3,
    .unsigned 2, .unsigned 3, .unsigned 2, .unsigned 1] p
  { zero := param v 0, span := paramNat v 1, deadband := paramNat v 2, pulsePitch := paramNat v 3,
    maxDelta := paramNat v 4, beltLength := paramNat v 5, zeroLimit := paramNat v 6,
    transitDistance := paramNat v 7, segmentLength := paramNat v 8, gateClosedLimit := paramNat v 9 }

/-- Every field lies in its range, and the transit distance spans at most 64 segments (R1, R2). -/
def WeighTable.inRange (t : WeighTable) : Bool :=
  within (-2000) 2000 t.zero && within 16384 49152 t.span && within 0 200 t.deadband
  && within 1 10000 t.pulsePitch && within 1 1000 t.maxDelta && within 10000 2000000 t.beltLength
  && within 1 2000 t.zeroLimit && within 1000 600000 t.transitDistance
  && within 500 20000 t.segmentLength && within 0 100 t.gateClosedLimit
  && decide (divUpNat t.transitDistance t.segmentLength ≤ 64)

/-- LOAD_WEIGH's work (R2). The held raw load lies within its range, so the recomputation finds OVERRANGE clear
(log 13). -/
def loadWeigh (p : List Byte) (s : State) : State × Answer :=
  if s.modes.mode ≠ .setup then refuse .wrongMode s
  else if s.weigher.zeroCal.running then refuse .busy s
  else
    let t := readWeighTable p
    if !t.inRange then refuse .badParam s
    else
      let w := { s.weigher with table := some t, overrange := false }
      done ((s.setWeigher (w.recorrect t)).driftNotices s.weigher)

/-! ### ZERO_SCALE and ABORT_ZERO (R16, R17) -/

/-- A sensor that ZERO_SCALE needs is LOST (R16). -/
def State.zeroSensorLost (s : State) : Bool :=
  s.weigher.scaleLost || decide (s.weigher.tracker = .lost) || s.gate.positionLost

/-- The gate is not known to be closed (R16). -/
def State.gateOpenFor (s : State) (t : WeighTable) : Bool :=
  s.gate.position.elim true (fun g => decide (t.gateClosedLimit < g))

/-- ZERO_SCALE's work (R16). -/
def zeroScale (_ : List Byte) (s : State) : State × Answer :=
  if s.modes.mode = .suspended then refuse .wrongMode s
  else match s.weigher.table with
    | none => refuse .wrongState s
    | some t =>
      if s.weigher.zeroCal.running then refuse .busy s
      else if s.zeroSensorLost then refuse .sensorLost s
      else if s.gateOpenFor t then refuse .gateOpen s
      else
        let z := { s.weigher.zeroCal with running := true, loadTravelSum := 0, travelSum := 0 }
        ((s.setWeigher { s.weigher with zeroCal := z }).raiseReason .zeroing, ⟨.accepted, []⟩)

/-- ABORT_ZERO's work (R17). -/
def abortZero (_ : List Byte) (s : State) : State × Answer :=
  if s.weigher.zeroCal.running then done s.abortZero else refuse .wrongState s

/-! ### READ_WEIGH (R20) -/

/-- Page 0 (R20). The load-travel sum takes 6 characters, the travel sum 4 and the proposed zero 2: what their values
can come to (DESIGN CHOICE, log 4). -/
def weighReport (s : State) : List Field :=
  let w := s.weigher
  [.num 2 w.heldRaw, .num 2 w.corrected, .flag w.overrange, .flag w.negDrift, .flag w.scaleLost,
   .small w.tracker.number, .num 2 w.pulseRef.toNat, .num 2 w.lastDelta, .flag w.catchUp,
   .num 4 w.odometer.toNat, .num 3 w.residue, .num 4 s.bills.totalizer.toNat,
   .num 4 w.account.weighed.toNat, .num 4 w.account.inTransit.toNat, .num 4 w.account.spill.toNat,
   .lot w.tag, .flag w.estimated, .flag w.zeroCal.running, .num 6 w.zeroCal.loadTravelSum,
   .num 4 w.zeroCal.travelSum, .small w.zeroCal.outcome.number, .optInt 2 w.zeroCal.proposed]

/-- Page 1 (R20): the table field by field. -/
def weighTableReport (t : WeighTable) : List Field :=
  [.num 2 t.zero, .num 2 t.span, .num 1 t.deadband, .num 2 t.pulsePitch, .num 2 t.maxDelta,
   .num 3 t.beltLength, .num 2 t.zeroLimit, .num 3 t.transitDistance, .num 2 t.segmentLength,
   .num 1 t.gateClosedLimit]

/-- READ_WEIGH's work (R20). -/
def readWeigh (p : List Byte) (s : State) : State × Answer :=
  let page := paramNat (readParams [.small] p) 0
  if 1 < page then refuse .badParam s
  else if page = 0 then done s (weighReport s)
  else match s.weigher.table with
    | none => refuse .notFound s
    | some t => done s (weighTableReport t)

/-! ### Meanings -/

/-- LOAD_WEIGH (R2), code 10h. -/
def execLoadWeigh (p : List Byte) (s : State) : Host.Outcome State Fault Refusal :=
  s.take (·.serve 0x10#8 20 p (loadWeigh p))

/-- ZERO_SCALE (R16), code 11h. -/
def execZeroScale (p : List Byte) (s : State) : Host.Outcome State Fault Refusal :=
  s.take (·.serve 0x11#8 0 p (zeroScale p))

/-- ABORT_ZERO (R17), code 12h. -/
def execAbortZero (p : List Byte) (s : State) : Host.Outcome State Fault Refusal :=
  s.take (·.serve 0x12#8 0 p (abortZero p))

/-- READ_WEIGH (R20), code 13h. -/
def execReadWeigh (p : List Byte) (s : State) : Host.Outcome State Fault Refusal :=
  s.take (·.serve 0x13#8 1 p (readWeigh p))

/-- WEIGHING_EVENT (R3). -/
def execWeighingEvent (s : State) : Host.Outcome State Fault Refusal := s.take weighingEvent

/-- PULSES_IMPLAUSIBLE_LOST (R7): the weighing event in which the third implausible sample is judged. -/
def execPulsesImplausibleLost (s : State) : Host.Outcome State Fault Refusal :=
  s.takeIf .pulsesImplausibleLost weighingEvent

/-- PULSE_REARM (R8): the weighing event in which the tracker is re-armed. -/
def execPulseRearm (s : State) : Host.Outcome State Fault Refusal :=
  s.takeIf .pulseRearm weighingEvent

/-- SEGMENT_CLOSE (R26): the weighing event whose advance closes the open parcel. -/
def execSegmentClose (s : State) : Host.Outcome State Fault Refusal :=
  s.takeIf .segmentClose weighingEvent

/-- DEFERRED_CLOSE (R30): the weighing event whose advance makes the deferred close. -/
def execDeferredClose (s : State) : Host.Outcome State Fault Refusal :=
  s.takeIf .deferredClose weighingEvent

/-- PARCEL_DISCHARGE (R31): the weighing event whose advance discharges a parcel. -/
def execParcelDischarge (s : State) : Host.Outcome State Fault Refusal :=
  s.takeIf .parcelDischarge weighingEvent

/-- ZERO_COMPLETE (R18): the weighing event in which a zero calibration completes. -/
def execZeroComplete (s : State) : Host.Outcome State Fault Refusal :=
  s.takeIf .zeroComplete weighingEvent

/-- DRAIN_COMPLETE (R77, R78): the weighing event whose advance completes a drain. -/
def execDrainComplete (s : State) : Host.Outcome State Fault Refusal :=
  s.takeIf .drainComplete weighingEvent

end Sys2Proof.Machine
end

