-- ==== Sys2Proof/Machine/Dust.lean ====
section
/-! DEFINITION. Chapter 6, Dust Supervision (R113 to R132): the sample event of a zone, the purge timer, and the
supervisor's requests. -/

namespace Sys2Proof.Machine

/-! ### A zone at work -/

/-- A zone in the middle of an event: the zone, the states it has entered with the zone as it stood at each entry
(R131), and what has come about. -/
structure ZoneWork where
  zone : Zone
  entered : List (ZoneState × Zone)
  notes : List Occurrence
deriving DecidableEq, Repr

/-- An event of a zone begins. -/
def Zone.work (z : Zone) : ZoneWork := ⟨z, [], []⟩

/-- Something has come about. -/
def ZoneWork.note (w : ZoneWork) (o : Occurrence) : ZoneWork := { w with notes := o :: w.notes }

/-- The zone enters a state as the given zone, which has that state (R131). -/
def ZoneWork.enter (w : ZoneWork) (z : Zone) : ZoneWork :=
  { w with zone := z, entered := w.entered ++ [(z.state, z)] }

/-- Entry to a state other than PURGE: the fall count is 0 and no purge timer runs (R118 to R123). -/
def ZoneWork.enterState (w : ZoneWork) (st : ZoneState) : ZoneWork :=
  w.enter { w.zone with state := st, fallCount := 0, purgeTimer := none }

/-- The level lowered by the hysteresis (R113). -/
def ZoneRecord.lowered (r : ZoneRecord) (level : Nat) : Nat := level - r.hysteresis

/-- The state a purge expires into (R121). -/
def ZoneRecord.afterPurge (r : ZoneRecord) (latest : Nat) : ZoneState :=
  if r.lowered r.stop ≤ latest then .stop
  else if r.lowered r.high ≤ latest then .high
  else if r.lowered r.warn ≤ latest then .warn
  else .clear

/-- The purge expires (R121). A zone in PURGE has taken a sample since it was enabled; 0 stands for its absence. -/
def ZoneWork.expire (w : ZoneWork) (n : ZoneNo) (r : ZoneRecord) : ZoneWork :=
  (w.note (.purgeExpiry n)).enterState (r.afterPurge (w.zone.latest.getD 0))

/-- Entry to PURGE (R120, R124, R127): a purge time of 0 expires at once (R121). -/
def ZoneWork.enterPurge (w : ZoneWork) (n : ZoneNo) (r : ZoneRecord) : ZoneWork :=
  let w := w.enter { w.zone with state := .purge, fallCount := 0, purgeTimer := some r.purgeTime }
  if r.purgeTime = 0 then w.expire n r else w

/-- Entry to LOST (R126): a zone already in LOST stays as it is. -/
def ZoneWork.enterLost (w : ZoneWork) : ZoneWork :=
  if w.zone.state = .lost then w
  else w.enter { w.zone with state := .lost, warnCount := 0, highCount := 0, stopCount := 0,
                             fallCount := 0, purgeTimer := none }

/-! ### The stages of a sample event (R115, R117 to R123, R127) -/

/-- A zone with no counts, no sample and no timer, in CLEAR (R115, R116). -/
def Zone.cleared (record : Option ZoneRecord) : Zone := { Zone.restart with record := record }

/-- Stage 1: a pending record takes force (R115). Disabling raises CLEAR if the zone was in another state (R131). -/
def Zone.takeRecord (z : Zone) : ZoneWork :=
  match z.pendingRecord, z.record with
  | none, _ => z.work
  | some none, _ =>
    if z.state = .clear then (Zone.cleared none).work else z.work.enter (Zone.cleared none)
  | some (some r), none => (Zone.cleared (some r)).work
  | some (some r), some _ =>
    { z with record := some r, pendingRecord := none, warnCount := 0, highCount := 0, stopCount := 0,
             fallCount := 0 : Zone }.work

/-- One rise count (R118). -/
def riseCount (level count v : Nat) : Nat := if level ≤ v then satAdd 50 count 1 else 0

/-- Stage 5: the latest sample and the rise counts (R118). -/
def Zone.takeValue (z : Zone) (r : ZoneRecord) (v : Nat) : Zone :=
  { z with latest := some v, warnCount := riseCount r.warn z.warnCount v,
           highCount := riseCount r.high z.highCount v, stopCount := riseCount r.stop z.stopCount v }

/-- The states in which samples are counted toward exposure (R122). -/
def ZoneState.exposed : ZoneState → Bool
  | .high => true
  | .stop => true
  | .purge => true
  | .latched => true
  | _ => false

/-- Stage 6: the exposure counter (R122). -/
def Zone.countExposure (z : Zone) : Zone :=
  if z.state.exposed then { z with exposure := satAdd 65535 z.exposure 1 } else z

/-- The rank of a band state, CLEAR lowest (R116); the other states do not rise. -/
def ZoneState.rank : ZoneState → Nat
  | .clear => 0
  | .warn => 1
  | .high => 2
  | _ => 3

/-- The highest confirmed level's state, CLEAR if no level is confirmed (R118). -/
def Zone.confirmed (z : Zone) (r : ZoneRecord) : ZoneState :=
  if r.rise ≤ z.stopCount then .stop
  else if r.rise ≤ z.highCount then .high
  else if r.rise ≤ z.warnCount then .warn
  else .clear

/-- The run below a falling level (R119, R120): the fall count, and the entry when it is reached. -/
def ZoneWork.fallBelow (w : ZoneWork) (r : ZoneRecord) (level v : Nat) (onFall : ZoneWork → ZoneWork) :
    ZoneWork :=
  if v < level then
    if r.fall ≤ w.zone.fallCount + 1 then onFall w
    else { w with zone := { w.zone with fallCount := w.zone.fallCount + 1 } }
  else { w with zone := { w.zone with fallCount := 0 } }

/-- Stage 7: at most one transition (R118 to R120, R127). -/
def ZoneWork.transition (w : ZoneWork) (n : ZoneNo) (r : ZoneRecord) (v : Nat) : ZoneWork :=
  let up := w.zone.confirmed r
  let rises := decide (w.zone.state.rank < up.rank)
  match w.zone.state with
  | .clear => if rises then (w.note (.dustRise n)).enterState up else w
  | .warn =>
    if rises then (w.note (.dustRise n)).enterState up
    else w.fallBelow r (r.lowered r.warn) v (fun w => (w.note (.dustFall n)).enterState .clear)
  | .high =>
    if rises then (w.note (.dustRise n)).enterState up
    else w.fallBelow r (r.lowered r.high) v (fun w => (w.note (.dustFall n)).enterState .warn)
  | .stop =>
    w.fallBelow r (r.lowered r.stop) v (fun w => (w.note (.dustStopFall n)).enterPurge n r)
  | .lost => (w.note (.dustReturn n)).enterPurge n r
  | .purge => w
  | .latched => w

/-- Stages 5 to 7: a sample is taken. -/
def ZoneWork.takeSample (w : ZoneWork) (n : ZoneNo) (r : ZoneRecord) (v : Nat) : ZoneWork :=
  ({ w with zone := (w.zone.takeValue r v).countExposure } : ZoneWork).transition n r v

/-- Stage 8: the latch test (R123). -/
def ZoneWork.latchTest (w : ZoneWork) (n : ZoneNo) (r : ZoneRecord) : ZoneWork :=
  if w.zone.state ≠ .latched ∧ w.zone.state ≠ .lost ∧ r.threshold ≤ w.zone.exposure then
    (w.note (.dustLatch n)).enterState .latched
  else w

/-- Stages 3 to 7 of an enabled zone: the map and the state of the binding (R117, R126). `began` says that the zone
began supervision in this event: a binding that is LOST then puts it in LOST too (R115). -/
def ZoneWork.takeBinding (w : ZoneWork) (n : ZoneNo) (r : ZoneRecord) (mapped began : Bool) (h : Handed) :
    ZoneWork :=
  if !mapped then w.enterLost
  else match h with
    | .newlyLost => w.enterLost
    | .lost => if began then w.enterLost else w
    | .notFresh => w
    | .fresh v => w.takeSample n r v.toNat
    | .returned v => w.takeSample n r v.toNat

/-- The zone's part of its sample event, stages 1 to 8 (R117). -/
def Zone.sample (z : Zone) (n : ZoneNo) (mapped : Bool) (h : Handed) : ZoneWork :=
  let w := z.takeRecord
  match w.zone.record with
  | none => w
  | some r => (w.takeBinding n r mapped z.record.isNone h).latchTest n r

/-! ### The purge timer (R121) -/

/-- The purge timer of a zone in PURGE is decreased by 1, and the purge expires at 0 (R121). -/
def Zone.tick (z : Zone) (n : ZoneNo) : ZoneWork :=
  match z.purgeTimer, z.record with
  | some left, some r =>
    let w := { z with purgeTimer := some (left - 1) : Zone }.work
    if left - 1 = 0 then w.expire n r else w
  | _, _ => z.work

/-! ### Hand-on (R128 to R131) -/

/-- The states in which a zone's DUST reason is present (R128). -/
def ZoneState.stops : ZoneState → Bool
  | .stop => true
  | .purge => true
  | .latched => true
  | .lost => true
  | _ => false

/-- The HIGH cap in force (R129). -/
def Zone.highCap (z : Zone) : Option Nat := if z.state = .high then z.record.map (·.highCap) else none

/-- The drop reduction in force (R130). -/
def Zone.reductionInForce (z : Zone) : Nat :=
  if z.state = .high then z.record.elim 0 (·.reduction) else 0

/-- The notices of the states a zone entered, in order (R131). -/
def State.zoneNotices (s : State) (n : ZoneNo) (entered : List (ZoneState × Zone)) : State :=
  entered.foldl (fun s e => s.raiseZoneNotice n e.1 e.2) s

/-- The drop reduction of zone 1 or 2 reaches the spout supervisor where it has changed (R130). -/
def State.handReduction (s : State) (n : ZoneNo) (v : Nat) : State :=
  if n = 0 then
    if s.spout.reductionTip = v then s
    else (s.setSpout { s.spout with reductionTip := v }).recomputeSpout false
  else if n = 1 then
    if s.spout.reductionHatch = v then s
    else (s.setSpout { s.spout with reductionHatch := v }).recomputeSpout false
  else s

/-- The HIGH cap is handed to the gate arbiter (R129). -/
def State.handHighCap (s : State) (n : ZoneNo) (cap : Option Nat) : State :=
  s.setGate { s.gate with highCaps := s.gate.highCaps.set n cap }

/-- The end of a zone's event: the zone, its notices, then the reason, the cap and the reduction (R128 to R130). -/
def State.finishZone (s : State) (n : ZoneNo) (w : ZoneWork) : State :=
  let s := (s.setDust (s.dust.set n w.zone)).setCame (w.notes ++ s.came)
  let s := (s.zoneNotices n w.entered).setReason (.dust n) w.zone.state.stops
  (s.handHighCap n w.zone.highCap).handReduction n w.zone.reductionInForce

/-- A zone's sample event (R117): takes the oldest state handed for its binding. -/
def dustEvent (n : ZoneNo) (s : State) : State :=
  match s.waitingFor (.dust n) with
  | [] => s
  | h :: _ =>
    (s.taken (.dust n)).finishZone n ((s.dust.get n).sample n (s.loop.maps (.dust n)) h)

/-- A zone's purge timer event (R121). -/
def purgeEvent (n : ZoneNo) (s : State) : State := s.finishZone n ((s.dust.get n).tick n)

/-! ### LOAD_ZONE (R113, R114) -/

/-- The record LOAD_ZONE carries, in the order of R113, after the character of number and flag. -/
def readZoneRecord (p : List Byte) : ZoneRecord :=
  let v := readParams [.unsigned 2, .unsigned 2, .unsigned 2, .unsigned 2, .unsigned 1, .unsigned 1,
    .unsigned 2, .unsigned 2, .unsigned 2, .unsigned 2] p.tail
  { warn := paramNat v 0, high := paramNat v 1, stop := paramNat v 2, hysteresis := paramNat v 3,
    rise := paramNat v 4, fall := paramNat v 5, highCap := paramNat v 6, reduction := paramNat v 7,
    purgeTime := paramNat v 8, threshold := paramNat v 9 }

/-- Every field lies in its range, the levels rise and the hysteresis is below the warn level (R113, R114). -/
def ZoneRecord.inRange (r : ZoneRecord) (n : ZoneNo) : Bool :=
  within 1 65533 r.warn && decide (r.warn < r.high) && decide (r.high < r.stop)
  && within 0 65535 r.stop && decide (r.hysteresis < r.warn) && within 1 50 r.rise
  && within 1 50 r.fall && within 0 1000 r.highCap
  && within 0 (if n.val < 2 then 30000 else 0) r.reduction && within 0 60000 r.purgeTime
  && within 1 65535 r.threshold

/-- A zone's record is pending (R114). -/
def State.pendZone (s : State) (n : ZoneNo) (r : Option ZoneRecord) : State :=
  s.setDust (s.dust.set n { s.dust.get n with pendingRecord := some r })

/-- LOAD_ZONE's work (R114). -/
def loadZone (p : List Byte) (s : State) : State × Answer :=
  let v := readParams [.small, .small] p
  match numbered 6 (paramNat v 0) with
  | none => refuse .badParam s
  | some n =>
    if 1 < paramNat v 1 then refuse .badParam s
    else if (s.dust.get n).state = .latched then refuse .wrongState s
    else if paramNat v 1 = 0 then done (s.pendZone n none)
    else if !(readZoneRecord p).inRange n then refuse .badParam s
    else if !s.loop.maps (.dust n) then refuse .mapIncomplete s
    else done (s.pendZone n (some (readZoneRecord p)))

/-! ### ACK_DUST, READ_EXPOSURE and READ_ZONE (R124, R125, R132) -/

/-- An acknowledged zone (R124): its counters are 0, and it enters PURGE. -/
def Zone.acknowledge (z : Zone) (n : ZoneNo) (r : ZoneRecord) : ZoneWork :=
  { z with exposure := 0, fallCount := 0 : Zone }.work.enterPurge n r

/-- ACK_DUST's work (R124). -/
def ackDust (p : List Byte) (s : State) : State × Answer :=
  match numbered 6 (paramNat (readParams [.small] p) 0) with
  | none => refuse .badParam s
  | some n =>
    let z := s.dust.get n
    match z.state, z.record with
    | .latched, some r =>
      if z.latest.any (fun v => decide (r.warn ≤ v)) then refuse .levelHigh s
      else done (s.finishZone n (z.acknowledge n r))
    | _, _ => refuse .wrongState s

/-- READ_EXPOSURE's work (R125). -/
def readExposure (p : List Byte) (s : State) : State × Answer :=
  match numbered 6 (paramNat (readParams [.small] p) 0) with
  | none => refuse .badParam s
  | some n =>
    let z := s.dust.get n
    done (s.setDust (s.dust.set n { z with exposure := 0 })) [.num 2 z.exposure]

/-- The drop reduction in force at the spout supervisor, 0 for zones 3 to 6 (R130, R132). -/
def Spout.reductionOf (sp : Spout) (n : ZoneNo) : Nat :=
  if n = 0 then sp.reductionTip else if n = 1 then sp.reductionHatch else 0

/-- Page 0 (R132). -/
def zoneReport (s : State) (n : ZoneNo) : List Field :=
  let z := s.dust.get n
  [.flag z.record.isSome, .small z.state.number, .flag z.pendingRecord.isSome, .optNat 3 z.latest,
   .num 1 z.warnCount, .num 1 z.highCount, .num 1 z.stopCount, .num 1 z.fallCount,
   .optNat 2 z.purgeTimer, .num 2 z.exposure, .flag (s.gate.stopSet.has (.dust n)),
   .optNat 2 (s.gate.highCaps.get n), .num 2 (s.spout.reductionOf n)]

/-- Page 1 (R132): the record field by field. -/
def zoneRecordReport (r : ZoneRecord) : List Field :=
  [.flag true, .num 2 r.warn, .num 2 r.high, .num 2 r.stop, .num 2 r.hysteresis, .num 1 r.rise,
   .num 1 r.fall, .num 2 r.highCap, .num 2 r.reduction, .num 2 r.purgeTime, .num 2 r.threshold]

/-- READ_ZONE's work (R132). -/
def readZone (p : List Byte) (s : State) : State × Answer :=
  let v := readParams [.small, .small] p
  match numbered 6 (paramNat v 0) with
  | none => refuse .badParam s
  | some n =>
    if 1 < paramNat v 1 then refuse .badParam s
    else if paramNat v 1 = 0 then done s (zoneReport s n)
    else match (s.dust.get n).record with
      | none => refuse .notFound s
      | some r => done s (zoneRecordReport r)

/-! ### Meanings -/

/-- LOAD_ZONE (R114), code 50h. -/
def execLoadZone (p : List Byte) (s : State) : Host.Outcome State Fault Refusal :=
  s.take (·.serve 0x50#8 19 p (loadZone p))

/-- ACK_DUST (R124), code 51h. -/
def execAckDust (p : List Byte) (s : State) : Host.Outcome State Fault Refusal :=
  s.take (·.serve 0x51#8 1 p (ackDust p))

/-- READ_EXPOSURE (R125), code 52h. -/
def execReadExposure (p : List Byte) (s : State) : Host.Outcome State Fault Refusal :=
  s.take (·.serve 0x52#8 1 p (readExposure p))

/-- READ_ZONE (R132), code 53h. -/
def execReadZone (p : List Byte) (s : State) : Host.Outcome State Fault Refusal :=
  s.take (·.serve 0x53#8 1 p (readZone p))

/-- DUST_SAMPLE (R117): a zone's sample event. -/
def execDustSample (z : ZoneNo) (s : State) : Host.Outcome State Fault Refusal :=
  s.take (dustEvent z)

/-- PURGE_TIMER_TICK (R121): a zone's purge timer is decreased. -/
def execPurgeTimerTick (z : ZoneNo) (s : State) : Host.Outcome State Fault Refusal :=
  s.take (purgeEvent z)

/-- DUST_RISE (R118): the sample event in which the zone rises. -/
def execDustRise (z : ZoneNo) (s : State) : Host.Outcome State Fault Refusal :=
  s.takeIf (.dustRise z) (dustEvent z)

/-- DUST_FALL (R119): the sample event in which the zone falls from HIGH or WARN. -/
def execDustFall (z : ZoneNo) (s : State) : Host.Outcome State Fault Refusal :=
  s.takeIf (.dustFall z) (dustEvent z)

/-- DUST_STOP_FALL (R120): the sample event in which the zone falls from STOP. -/
def execDustStopFall (z : ZoneNo) (s : State) : Host.Outcome State Fault Refusal :=
  s.takeIf (.dustStopFall z) (dustEvent z)

/-- PURGE_EXPIRY (R121): the timer event in which the purge expires. -/
def execPurgeExpiry (z : ZoneNo) (s : State) : Host.Outcome State Fault Refusal :=
  s.takeIf (.purgeExpiry z) (purgeEvent z)

/-- DUST_LATCH (R123): the sample event in which the zone latches. -/
def execDustLatch (z : ZoneNo) (s : State) : Host.Outcome State Fault Refusal :=
  s.takeIf (.dustLatch z) (dustEvent z)

/-- DUST_RETURN (R127): the sample event in which the zone leaves LOST. -/
def execDustReturn (z : ZoneNo) (s : State) : Host.Outcome State Fault Refusal :=
  s.takeIf (.dustReturn z) (dustEvent z)

end Sys2Proof.Machine
end

