-- ==== Sys2Proof/Machine/Contacts.lean ====
section
/-! DEFINITION. Chapter 7, Feed Gate and Interlock Contacts (R136 to R149): the gate command, the gate position, the
contact scanner and their requests. -/

namespace Sys2Proof.Machine

/-! ### The gate command (R136, R137) -/

/-- The caps in force (R136). -/
def Gate.capsInForce (g : Gate) : List Nat :=
  g.commandCap :: (g.highCaps.toList ++ [g.dropCap, g.topUpCap]).filterMap id

/-- The least of a list of caps, at most a bound. -/
def leastOf (bound : Nat) : List Nat → Nat
  | [] => bound
  | c :: cs => min c (leastOf bound cs)

/-- The opening to write (R137): 0 while the stop set holds a reason, otherwise the least cap in force. -/
def Gate.opening (g : Gate) : Nat := if g.stopSet.isEmpty then leastOf 1000 g.capsInForce else 0

/-- The gate arbiter answers the command value that the loop port holds (R136, R137). -/
def State.answerGate (s : State) (command : Half) : State :=
  let g := { s.gate with commandCap := (saturate 0 1000 command.toInt).toNat }
  s.setGate { g with lastWritten := g.opening }

/-! ### The gate position (R138) -/

/-- A GATE_POS value is accepted (R138). -/
def State.acceptGate (s : State) (v : Half) (returned : Bool) : State :=
  s.setGate { s.gate with
    position := some (min 1000 v.toNat), positionLost := s.gate.positionLost && !returned }

/-- The gate arbiter's event of a period: takes the oldest state handed for GATE_POS (R138). At a return GATE_FEEDBACK is
cleared, the plan tests the value, and GATE_RETURNED is raised last, so that a PLAN notice of the event, DRAINING among
them, is posted before it (DESIGN CHOICE, log 45). -/
def gatePosEvent (s : State) : State :=
  match s.waitingFor .gatePos with
  | [] => s
  | h :: _ =>
    let s := s.taken .gatePos
    match h with
    | .fresh v => (s.acceptGate v false).testGate
    | .returned v =>
      (((s.acceptGate v true).clearReason .gateFeedback).testGate).raiseNotice (.contact .gateReturned)
    | .newlyLost =>
      ((s.setGate { s.gate with positionLost := true }).raiseReason .gateFeedback).raiseNotice
        (.contact .gateLost)
    | .notFresh => s
    | .lost => s

/-! ### What the contacts do (R144 to R147) -/

/-- The BELT_SWAY input's accepted state is ACTIVE (R147). -/
def Contacts.swayActive (c : Contacts) : Bool :=
  c.inputs.toList.any (fun i => decide (i.role = .beltSway) && i.active)

/-- SWAY follows its condition, with its notices (R147). -/
def State.rejudgeSway (s : State) : State :=
  if s.contacts.swayActive then
    if s.gate.stopSet.has .sway then s else (s.raiseNotice (.contact .swayOn)).raiseReason .sway
  else if s.gate.stopSet.has .sway then (s.raiseNotice (.contact .swayOff)).clearReason .sway
  else s

/-- The pull-cord latch is set or cleared. -/
def State.setLatch (s : State) (v : Bool) : State := s.setContacts { s.contacts with latch := v }

/-- A change of one input's accepted state, with its mark (R144). -/
structure ContactChange where
  input : InputNo
  measured : Bool
deriving DecidableEq, Repr

/-- The hold of a HATCH_OPEN input is that of the active step (R144). -/
def State.activeHatch (s : State) (h : HoldNo) : Bool := s.plan.active.any (fun st => decide (st.hold = h))

/-- The input of one of the changes satisfies a condition; the table holds the new states already. -/
def State.changedInput (s : State) (cs : List ContactChange) (c : ContactInput → Bool) : Bool :=
  cs.any (fun x => c (s.contacts.inputs.get x.input))

/-- PULL_CORD's part of the changes (R145): the latch is set, with its notice. -/
def State.announceCord (s : State) (cs : List ContactChange) : State :=
  if s.changedInput cs (fun i => decide (i.role = .pullCord) && i.active) then
    (s.setLatch true).raiseNotice (.contact .pullCord)
  else s

/-- The notice of a change of BELT_SWAY that raises or clears SWAY (R147). -/
def State.announceSway (s : State) (cs : List ContactChange) : State :=
  if s.changedInput cs (fun i => decide (i.role = .beltSway)) then
    if s.contacts.swayActive then
      if s.gate.stopSet.has .sway then s else s.raiseNotice (.contact .swayOn)
    else if s.gate.stopSet.has .sway then s.raiseNotice (.contact .swayOff) else s
  else s

/-- The notice of a change of the active hold's HATCH_OPEN that raises HATCH (R148). -/
def State.announceHatch (s : State) (cs : List ContactChange) : State :=
  match s.plan.active with
  | none => s
  | some st =>
    if s.changedInput cs (fun i => decide (i.role = .hatchOpen st.hold))
        && !s.contacts.hatchOpen st.hold && !s.gate.stopSet.has .hatch then
      s.raiseNotice (.contact (.hatchClosed st.hold))
    else s

/-- HATCH follows its condition (R148); its notice has been raised. -/
def State.followHatch (s : State) : State :=
  s.setReason .hatch (s.plan.active.any (fun st => !s.contacts.hatchOpen st.hold))

/-- A change of an input's accepted state is handed on by role (R144). -/
def State.handChange (s : State) (role : ContactRole) (active measured : Bool) : State :=
  match role with
  | .pullCord => if active then s.raiseReason .pullCord else s
  | .beltSway => s.setReason .sway s.contacts.swayActive
  | .tipContact => s.changeTipContact active measured
  | .hatchOpen h => if s.activeHatch h then s.followHatch else s
  | .unused => s

/-- One input's change is handed on (R144). -/
def State.handInput (s : State) (c : ContactChange) : State :=
  let i := s.contacts.inputs.get c.input
  (s.note (.contactChange c.input)).handChange i.role i.active c.measured

/-- The changes of one event: their CONTACT notices are raised in the order of the rules that cause them (R149), and
the changes are handed on in order of input number (R142, R144). -/
def State.handChanges (s : State) (cs : List ContactChange) : State :=
  cs.foldl State.handInput (((s.announceCord cs).announceSway cs).announceHatch cs)

/-! ### Debouncing (R140, R142, R143) -/

/-- A role's fail-safe state is ACTIVE (R140). -/
def ContactRole.failSafe : ContactRole → Bool
  | .pullCord => true
  | .beltSway => true
  | .tipContact => true
  | .hatchOpen _ => false
  | .unused => false

/-- The raw state of an input (R140). -/
def ContactInput.rawState (i : ContactInput) (b : Bool) : Bool := b != i.activeLow

/-- An input takes a sample (R142): the input, and the mark of the change if its accepted state has changed. -/
def ContactInput.sample (i : ContactInput) (count : Nat) (b : Bool) : ContactInput × Option Bool :=
  let raw := i.rawState b
  if i.role = .unused then (i, none)
  else if raw = i.active then ({ i with counter := 0 }, none)
  else if count ≤ i.counter + 1 then
    ({ i with active := raw, counter := 0, failSafeHold := false }, some (!i.failSafeHold))
  else ({ i with counter := i.counter + 1 }, none)

/-- An input falls into its fail-safe state (R143). -/
def ContactInput.fail (i : ContactInput) : ContactInput × Option Bool :=
  if i.role = .unused then (i, none)
  else ({ i with active := i.role.failSafe, counter := 0, failSafeHold := true },
    if i.active = i.role.failSafe then none else some false)

/-- Every input takes its part of an event; the changes are then handed on. -/
def State.moveInputs (s : State) (f : InputNo → ContactInput → ContactInput × Option Bool) : State :=
  let old := s.contacts.inputs
  let changes := (List.finRange 16).filterMap (fun i => (f i (old.get i)).2.map (ContactChange.mk i))
  (s.setContacts { s.contacts with inputs := Vector.ofFn (fun i => (f i (old.get i)).1) }).handChanges
    changes

/-- A fresh CONTACTS sample is judged (R142). While no role table is loaded every input is UNUSED. -/
def State.debounce (s : State) (v : Half) : State :=
  (s.setContacts { s.contacts with raw := some v, sampleTaken := true }).moveInputs
    (fun i x => x.sample (s.contacts.debounce.getD 1) (v.getLsbD i.val))

/-- The contact scanner's event of a period: takes the oldest state handed for CONTACTS (R142, R143). -/
def contactsEvent (s : State) : State :=
  match s.waitingFor .contacts with
  | [] => s
  | h :: _ =>
    let s := s.taken .contacts
    match h with
    | .fresh v => s.debounce v
    | .returned v =>
      ((s.setContacts { s.contacts with lost := false }).raiseNotice (.contact .contactsReturned)).debounce v
    | .newlyLost =>
      ((s.setContacts { s.contacts with lost := true }).raiseNotice (.contact .contactsLost)).moveInputs
        (fun _ x => x.fail)
    | .notFresh => s
    | .lost => s

/-! ### LOAD_CONTACT (R140, R141) -/

/-- A role as LOAD_CONTACT sends it (R198): its number and a hold number, which HATCH_OPEN alone reads. -/
def roleOf (number hold : Nat) : Option ContactRole :=
  match number with
  | 0 => some .unused
  | 1 => some .pullCord
  | 2 => some .beltSway
  | 3 => some .tipContact
  | 4 => (numbered 9 hold).map .hatchOpen
  | _ => none

/-- The parameters of LOAD_CONTACT: sixteen entries of three small fields, and the debounce count (R198). -/
def contactKinds : List ParamKind := List.replicate 48 .small ++ [.unsigned 1]

/-- The role and polarity that LOAD_CONTACT carries for an input, if both lie among the listed values. -/
def readEntry (v : List Int) (i : InputNo) : Option (ContactRole × Bool) :=
  match roleOf (paramNat v (3 * i.val)) (paramNat v (3 * i.val + 1)), paramNat v (3 * i.val + 2) with
  | some r, 0 => some (r, false)
  | some r, 1 => some (r, true)
  | _, _ => none

/-- No role but UNUSED is held by two of the inputs (R140, R141). -/
def rolesDistinct : List ContactRole → Bool
  | [] => true
  | r :: rs => (decide (r = .unused) || !rs.contains r) && rolesDistinct rs

/-- An input under its new entry (R141), with the mark of its change. The accepted state before acceptance of an
input in a role new to it is RELEASED (log 17). -/
def ContactInput.assign (i : ContactInput) (role : ContactRole) (activeLow : Bool) :
    ContactInput × Option Bool :=
  if i.role = role ∧ i.activeLow = activeLow then ({ i with counter := 0 }, none)
  else if role = .unused then (⟨.unused, activeLow, false, 0, false⟩, none)
  else
    let before := decide (i.role = role) && i.active
    (⟨role, activeLow, role.failSafe, 0, true⟩, if before = role.failSafe then none else some false)

/-- An ACTIVE input leaves the TIP_CONTACT role under the new table (R141). -/
def tipLeaves (old : Vector ContactInput 16) (role : InputNo → ContactRole) : Bool :=
  (List.finRange 16).any (fun i =>
    decide ((old.get i).role = .tipContact ∧ role i ≠ .tipContact) && (old.get i).active)

/-- The pull-cord latch against the table (R145): cleared where PULL_CORD is unassigned. -/
def State.rejudgeLatch (s : State) : State :=
  if s.contacts.inputs.toList.any (fun i => decide (i.role = .pullCord)) then s
  else (s.setLatch false).clearReason .pullCord

/-- The new table is in force: the changes are handed on, an ended tip contact first, then SWAY, HATCH and the latch
are judged against it (R141). -/
def State.applyContacts (s : State) (entry : InputNo → ContactRole × Bool) (count : Nat) : State :=
  let old := s.contacts.inputs
  let assigned := fun (i : InputNo) => (old.get i).assign (entry i).1 (entry i).2
  let changes := (List.finRange 16).filterMap (fun i => (assigned i).2.map (ContactChange.mk i))
  let s := s.setContacts { s.contacts with
    inputs := Vector.ofFn (fun i => (assigned i).1), debounce := some count }
  let s := if tipLeaves old (fun i => (entry i).1) then s.changeTipContact false false else s
  (((s.handChanges changes).rejudgeSway).rejudgeHatch).rejudgeLatch

/-- LOAD_CONTACT's work (R141). -/
def loadContact (p : List Byte) (s : State) : State × Answer :=
  let v := readParams contactKinds p
  let entries := (List.finRange 16).map (readEntry v)
  let count := paramNat v 48
  if s.modes.mode ≠ .setup then refuse .wrongMode s
  else if entries.contains none || !within 1 32 count
      || !rolesDistinct (entries.filterMap (·.map (·.1))) then refuse .badParam s
  else done (s.applyContacts (fun i => (readEntry v i).getD (.unused, false)) count)

/-! ### ACK_CONTACT (R146) -/

/-- The PULL_CORD input's accepted state is ACTIVE (R146). -/
def Contacts.cordActive (c : Contacts) : Bool :=
  c.inputs.toList.any (fun i => decide (i.role = .pullCord) && i.active)

/-- ACK_CONTACT's work (R146). -/
def ackContact (_ : List Byte) (s : State) : State × Answer :=
  if !s.contacts.latch then refuse .wrongState s
  else if s.contacts.cordActive then refuse .contactActive s
  else done (((s.setLatch false).raiseNotice (.contact .latchCleared)).clearReason .pullCord)

/-! ### READ_GATE (R139) -/

/-- Page 0 (R139). -/
def gateReport (g : Gate) : List Field :=
  [.reasons g.stopSet, .num 2 g.commandCap] ++ g.highCaps.toList.map (.optNat 2)
  ++ [.optNat 2 g.dropCap, .optNat 2 g.topUpCap, .num 2 g.lastWritten, .optNat 2 g.position,
      .flag g.positionLost]

/-- One input's fields (R139): an UNUSED input has no accepted state, counter or fail-safe hold. -/
def inputReport (i : ContactInput) : List Field :=
  (match i.role with
   | .hatchOpen h => [.small 4, .small (h.val + 1)]
   | r => [.small r.number])
  ++ .flag i.activeLow :: (if i.role = .unused then [.optSmall none, .optNat 1 none, .optSmall none]
    else [.flag i.active, .num 1 i.counter, .flag i.failSafeHold])

/-- The raw data that READ_GATE reports (R139): absent while no sample has been taken since the last restart, also where
a LOOP_RESTART has kept the data of one before it (R150; DEDUCED, log 40). -/
def Contacts.rawReported (c : Contacts) : Option Half := if c.sampleTaken then c.raw else none

/-- Page 1 (R139). -/
def contactReport (c : Contacts) : List Field :=
  [.optNat 1 c.debounce] ++ (c.inputs.toList.take 8).flatMap inputReport
  ++ [.optNat 3 (c.rawReported.map (·.toNat)), .flag c.lost, .flag c.latch]

/-- READ_GATE's work (R139). -/
def readGate (p : List Byte) (s : State) : State × Answer :=
  match paramNat (readParams [.small] p) 0 with
  | 0 => done s (gateReport s.gate)
  | 1 => done s (contactReport s.contacts)
  | 2 => done s ((s.contacts.inputs.toList.drop 8).flatMap inputReport)
  | _ => refuse .badParam s

/-! ### Meanings -/

/-- READ_GATE (R139), code 60h. -/
def execReadGate (p : List Byte) (s : State) : Host.Outcome State Fault Refusal :=
  s.take (·.serve 0x60#8 1 p (readGate p))

/-- LOAD_CONTACT (R141), code 61h. -/
def execLoadContact (p : List Byte) (s : State) : Host.Outcome State Fault Refusal :=
  s.take (·.serve 0x61#8 25 p (loadContact p))

/-- ACK_CONTACT (R146), code 62h. -/
def execAckContact (p : List Byte) (s : State) : Host.Outcome State Fault Refusal :=
  s.take (·.serve 0x62#8 0 p (ackContact p))

/-- CONTACTS_SAMPLE (R142): the contact scanner's event of a period. -/
def execContactsSample (s : State) : Host.Outcome State Fault Refusal := s.take contactsEvent

/-- CONTACT_DEBOUNCE_CHANGE (R142): the contacts event in which an input's accepted state changes. -/
def execContactDebounceChange (i : InputNo) (s : State) : Host.Outcome State Fault Refusal :=
  s.takeIf (.contactChange i) contactsEvent

/-- GATE_POS_SAMPLE (R138): the gate arbiter's event of a period. -/
def execGatePosSample (s : State) : Host.Outcome State Fault Refusal := s.take gatePosEvent

/-- DRAIN_START (R76): the gate position event in which the gate shows closed and the plan enters DRAINING. -/
def execDrainStart (s : State) : Host.Outcome State Fault Refusal := s.takeIf .drainStart gatePosEvent

end Sys2Proof.Machine
end

