-- ==== Sys2Proof/Machine/Modes.lean ====
section
/-! DEFINITION. Chapter 11, Operating Modes and Restarts (R190 to R195). -/

namespace Sys2Proof.Machine

/-! ### The mode (R190 to R193) -/

/-- The mode takes a value. -/
def State.setMode (s : State) (m : Mode) : State := s.setModes { s.modes with mode := m }

/-- The entry to LOADING (R191, R193): the mode, then MODE, then the plan. -/
def State.enterLoading (s : State) : State := ((s.setMode .loading).clearReason .mode).planLoading

/-- Every binding but the dust bindings stands in the slot map (R191). -/
def State.mapComplete (s : State) : Bool :=
  (sampleBindings.all (fun b => match b with
    | .dust _ => true
    | b => s.loop.maps b))
  && commandBindings.all s.loop.mapsCommand

/-- The weigh table, the vessel record and the three axis entries are loaded (R191). -/
def State.tablesLoaded (s : State) : Bool :=
  s.weigher.table.isSome && s.holds.vessel.isSome && s.spout.travel.entry.isSome
  && s.spout.reach.entry.isSome && s.spout.drop.entry.isSome

/-- Some hold is present (R191). -/
def HoldTable.anyPresent (t : HoldTable) : Bool := t.holds.toList.any (·.isSome)

/-- BEGIN_LOADING's work (R191). -/
def beginLoading (_ : List Byte) (s : State) : State × Answer :=
  if s.modes.mode ≠ .setup then refuse .wrongMode s
  else if !s.mapComplete then refuse .mapIncomplete s
  else if !s.tablesLoaded then refuse .wrongState s
  else if !s.holds.anyPresent then refuse .wrongState s
  else if s.loop.state ≠ .run then refuse .wrongState s
  else done s.enterLoading

/-- The queue holds a parcel of mass above 0 (R192). -/
def TransitQueue.carriesMass (q : TransitQueue) : Bool :=
  q.closed.any (fun c => decide (0 < c.parcel.mass)) || q.openParcel.any (fun p => decide (0 < p.mass))

/-- END_LOADING's work (R192). -/
def endLoading (_ : List Byte) (s : State) : State × Answer :=
  if s.modes.mode = .setup then refuse .wrongMode s
  else if s.plan.state.flowing || s.queue.carriesMass then refuse .flowActive s
  else done ((((s.setMode .setup).raiseReason .mode).setTag none).planEndLoading)

/-- SUSPEND's work (R193). -/
def suspend (_ : List Byte) (s : State) : State × Answer :=
  if s.modes.mode ≠ .loading then refuse .wrongMode s
  else done ((s.setMode .suspended).raiseReason .mode)

/-- RESUME's work (R193). -/
def resume (_ : List Byte) (s : State) : State × Answer :=
  if s.modes.mode ≠ .suspended then refuse .wrongMode s
  else if s.loop.state ≠ .run then refuse .wrongState s
  else done s.enterLoading

/-- READ_MODE's work (R190). -/
def readMode (_ : List Byte) (s : State) : State × Answer :=
  done s [.small s.modes.mode.number, .small s.modes.lastRestart.number,
    .num 1 s.service.station.toNat, .flag s.modes.partResetPending]

/-- PART_RESET's work (R194): the pending flag is set. -/
def partReset (_ : List Byte) (s : State) : State × Answer :=
  done (s.setModes { s.modes with partResetPending := true })

/-! ### The restarts (R194, R195) -/

/-- What the sender and the outside keep through a restart: the queue of commands, the count of free values, the
line signal and what left on LOOP_OUT. -/
def State.keepOutside (new old : State) (bkvalid : Bool) : State :=
  ((((new.setPending old.pending).setFreeCount old.freeCount).setPins
    { old.pins with porst := false, straps := new.pins.straps, bkvalid := bkvalid }).setLoop
      { new.loop with loopOut := old.loop.loopOut }).setCame old.came

/-- POWER_ON (R162, R194): the straps and BKVALID are read. -/
def State.powerOn (s : State) (straps : BitVec 6) (bkvalid : Bool) : State :=
  (State.restart .powerOn straps (if bkvalid then s.bills.kept else .cleared)).keepOutside s bkvalid

/-- A pending PART_RESET takes effect (R163, R194): the straps are read again, BKVALID is not. -/
def State.takePartReset (s : State) : State :=
  ((State.restart .partReset s.pins.straps s.bills.kept).keepOutside s s.pins.bkvalid).note .partReset

/-- The end or the discarding of a reply is handed to the modes (R185, R194). -/
def State.replyGone (s : State) : State :=
  if s.modes.partResetPending then s.takePartReset else s

/-- While PORST is asserted nothing is sent (R194); a pending PART_RESET is lost. -/
def State.assertPorst (s : State) : State :=
  (((s.setPins { s.pins with porst := true }).setModes
    { s.modes with partResetPending := false }).setLoop { s.loop with loopOut := none }).setCame []

/-- The pulse tracker at LOOP_RESTART (R22). The catch-up flag is kept, as the table of R22 has it, also where TRACKING
becomes UNARMED, so that the first plausible travel after the arming is then estimated (DESIGN CHOICE, log 44). -/
def State.restartTracker (s : State) : State :=
  let t := if s.weigher.tracker = .lost then TrackerState.lost else .unarmed
  s.setWeigher { s.weigher with tracker := t, implausible := 0, gap := 0 }

/-- The contact scanner at LOOP_RESTART: everything is kept (R150), and no sample has been taken since this restart
(R139). -/
def State.restartContacts (s : State) : State :=
  s.setContacts { s.contacts with sampleTaken := false }

/-- The gate arbiter and the service unit at LOOP_RESTART (R136, R150, R189). A reply emptied here is not handed to the
modes: a PART_RESET pending on it stays pending (DESIGN CHOICE, log 39). -/
def State.restartGateAndService (s : State) : State :=
  (s.setGate { s.gate with commandCap := 0, position := none }).setService
    { s.service with receiver := .idle, request := none, reply := none }

/-- LOOP_RESTART (R195), in its six stages. -/
def State.loopRestart (s : State) : State :=
  let s := (s.note .loopRestart).setModes { s.modes with mode := .suspended, lastRestart := .loopRestart }
  let s := (s.raiseReason .mode).abortZero
  let s := s.emptyQueue.countRestarts
  let s := (s.setTag none).restartTracker
  let s := s.restartContacts.restartGateAndService.planRestart
  s.recomputeSpout false

/-! ### Meanings -/

/-- BEGIN_LOADING (R191), code A0h. -/
def execBeginLoading (p : List Byte) (s : State) : Host.Outcome State Fault Refusal :=
  s.take (·.serve 0xA0#8 0 p (beginLoading p))

/-- END_LOADING (R192), code A1h. -/
def execEndLoading (p : List Byte) (s : State) : Host.Outcome State Fault Refusal :=
  s.take (·.serve 0xA1#8 0 p (endLoading p))

/-- SUSPEND (R193), code A2h. -/
def execSuspend (p : List Byte) (s : State) : Host.Outcome State Fault Refusal :=
  s.take (·.serve 0xA2#8 0 p (suspend p))

/-- RESUME (R193), code A3h. -/
def execResume (p : List Byte) (s : State) : Host.Outcome State Fault Refusal :=
  s.take (·.serve 0xA3#8 0 p (resume p))

/-- READ_MODE (R190), code A4h. -/
def execReadMode (p : List Byte) (s : State) : Host.Outcome State Fault Refusal :=
  s.take (·.serve 0xA4#8 0 p (readMode p))

/-- PART_RESET (R194), code A5h. -/
def execPartReset (p : List Byte) (s : State) : Host.Outcome State Fault Refusal :=
  s.take (·.serve 0xA5#8 0 p (partReset p))

/-- PORST_ASSERTED (R194). -/
def execPorstAsserted (s : State) : Host.Outcome State Fault Refusal := .next s.assertPorst

/-- POWER_ON (R194): taken at the release of PORST, with the straps and BKVALID as they stand there. -/
def execPowerOn (straps : BitVec 6) (bkvalid : Bool) (s : State) : Host.Outcome State Fault Refusal :=
  .next (s.begin.powerOn straps bkvalid)

end Sys2Proof.Machine
end

