-- ==== Sys2Proof/Machine/Service.lean ====
section
/-! DEFINITION. Chapter 10, Service Channel and Notices (R180 to R187): the receiver, the sending of a reply, the
notice queue's request, and what becomes of a request that reaches no block. -/

namespace Sys2Proof.Machine

/-! ### The receiver (R180 to R183) -/

/-- The part's own address (R180): none for a strapped value of 0 or 63. -/
def Service.ownAddress (v : Service) : Option Byte :=
  if v.station = 0 ∨ v.station = 63 then none else some (v.station.setWidth 8)

/-- What the receiver makes of one arriving character: its state after, whether the character belongs to a message
for the own address (it is then blanked), and the characters of a message that has completed undamaged. -/
structure Taken where
  receiver : Receiver
  own : Bool
  message : Option (List Byte)
deriving DecidableEq, Repr

/-- A character without S, in RECEIVING (R181, R182). -/
def takeInMessage (length : Option Nat) (chars : List Byte) (damaged : Bool) (d : Byte) : Taken :=
  match length with
  | none =>
    if d = 0 then ⟨.idle, true, none⟩
    else if 60 < d.toNat then ⟨.discarding, true, none⟩
    else ⟨.receiving (some d.toNat) [] damaged, true, none⟩
  | some n =>
    let chars := chars ++ [d]
    if n ≤ chars.length then ⟨.idle, true, if damaged then none else some chars⟩
    else ⟨.receiving (some n) chars damaged, true, none⟩

/-- One arriving character (R181); `good` says that its frame's check is good. -/
def takeChar (own : Option Byte) (good : Bool) (c : ServiceChar) (r : Receiver) : Taken :=
  if !c.p then ⟨r, false, none⟩
  else if c.s then
    if own = some c.data then ⟨.receiving none [] (!good), true, none⟩ else ⟨.idle, false, none⟩
  else match r with
    | .idle => ⟨.idle, false, none⟩
    | .discarding => ⟨.discarding, true, none⟩
    | .receiving length chars damaged => takeInMessage length chars (damaged || !good) c.data

/-- A complete undamaged message (R183): discarded for overrun while a reply is not fully sent, or while a request
already waits (log 5); otherwise it enters the request buffer. -/
def Service.complete (v : Service) (replyUnsent : Bool) (message : List Byte) : Service :=
  match message with
  | [] => v
  | code :: params =>
    if replyUnsent || v.request.isSome then { v with overrun := true }
    else { v with request := some ⟨code, params⟩ }

/-- The service unit takes one arriving character. -/
def Service.takeChar (v : Service) (good : Bool) (replyUnsent : Bool) (c : ServiceChar) : Service × Bool :=
  let t := Machine.takeChar v.ownAddress good c v.receiver
  let v := { v with receiver := t.receiver }
  ((t.message.elim v (v.complete replyUnsent)), t.own)

/-- The first position of a frame carries the last character of the reply in the buffer (R183, R185): a request that
completes at the second position finds the reply fully sent. -/
def Service.endsAtFirst (v : Service) (f : Frame) (good : Bool) : Bool :=
  good && !f.char1.p && v.reply.any (fun r => decide (r.chars.length ≤ r.sent + 1))

/-- The service unit takes the two characters of a frame, in order of arrival (R180): what it holds after, and
whether each is blanked. -/
def Service.takeChars (v : Service) (f : Frame) (good : Bool) : Service × Bool × Bool :=
  let r1 := v.takeChar good v.reply.isSome f.char1
  let r2 := r1.1.takeChar good (v.reply.isSome && !v.endsAtFirst f good) f.char2
  (r2.1, r1.2, r2.2)

/-! ### Sending a reply (R180, R185) -/

/-- The reply buffer after a character of it has been sent, empty after the last (R185). -/
def Reply.advance (r : Reply) : Option Reply :=
  if r.chars.length ≤ r.sent + 1 then none else some { r with sent := r.sent + 1 }

/-- The next character of a reply, with P set and S at the first (R184, R185). -/
def Reply.nextChar (r : Reply) : ServiceChar := ⟨r.sent == 0, true, r.chars.getD r.sent 0⟩

/-- One position of a frame on loop-out (R180): the character written and the reply buffer after. -/
def formChar (c : ServiceChar) (good blank mayReply : Bool) (reply : Option Reply) :
    ServiceChar × Option Reply :=
  if !good || blank then ({ c with p := false }, reply)
  else match reply with
    | some r => if !c.p && mayReply then (r.nextChar, r.advance) else (c, reply)
    | none => (c, none)

/-! ### POLL_NOTICE (R187, R201) -/

/-- The data of a notice in a POLL_NOTICE reply (R201). -/
def noticeData (n : Notice) : List Field :=
  [.num 1 n.event.source.number, .num 1 n.event.number]
  ++ (match n.event with
      | .bill b _ => [.num 1 ((b.val + 1 : Nat) : Int)]
      | _ => [])
  ++ n.summary

/-- POLL_NOTICE's work (R187). -/
def pollNotice (_ : List Byte) (s : State) : State × Answer :=
  match s.notices with
  | [] => done s [.num 1 0]
  | n :: rest => done (s.setNotices rest) (noticeData n)

/-! ### Requests that reach no block (R183) -/

/-- The request codes of R198. -/
def requestCodes : List Byte :=
  [0x10, 0x11, 0x12, 0x13, 0x18, 0x20, 0x21, 0x22, 0x30, 0x31, 0x32, 0x33, 0x34, 0x35, 0x36, 0x37,
   0x38, 0x40, 0x41, 0x50, 0x51, 0x52, 0x53, 0x60, 0x61, 0x62, 0x70, 0x71, 0x72, 0x73, 0x80, 0x81,
   0x82, 0x90, 0xA0, 0xA1, 0xA2, 0xA3, 0xA4, 0xA5]

/-- A request whose code the table does not hold is refused with UNKNOWN_REQUEST (R183); with a code of the table it
is no unknown request, and nothing happens. -/
def State.serveUnknown (s : State) (code : Byte) (p : List Byte) : State :=
  if requestCodes.contains code then s
  else s.serve code p.length p (refuse .unknownRequest)

/-- A request that completes while a reply is not fully sent is discarded for overrun (R183); with the reply buffer
empty it is no overrun, and nothing happens. -/
def State.serveOverrun (s : State) : State := if s.service.reply.isSome then s.overrunRequest else s

/-! ### Meanings -/

/-- POLL_NOTICE (R187), code 90h. -/
def execPollNotice (p : List Byte) (s : State) : Host.Outcome State Fault Refusal :=
  s.take (·.serve 0x90#8 0 p (pollNotice p))

/-- UNKNOWN_REQUEST (R183). -/
def execUnknownRequest (code : Byte) (p : List Byte) (s : State) : Host.Outcome State Fault Refusal :=
  s.take (·.serveUnknown code p)

/-- REQUEST_OVERRUN (R183): whatever the code and the parameters, no block is reached. -/
def execRequestOverrun (_ : Byte) (_ : List Byte) (s : State) : Host.Outcome State Fault Refusal :=
  s.take State.serveOverrun

end Sys2Proof.Machine
end

