-- ==== Sys2Proof/Machine/Loop.lean ====
section
/-! DEFINITION. Chapter 9, Quay Loop Traffic (R165 to R176): the loop period events, the judging of the slots, the
loop states, the error window, the frame on loop-out, substitute frames and the outage, and the loop port's
requests. -/

namespace Sys2Proof.Machine

/-! ### Freshness (R171, R173) -/

/-- A slot of a good frame carries a fresh value: V set, and a T that differs from the last T or is the first. -/
def Freshness.isFresh (r : Freshness) (x : Slot) : Bool := x.v && decide (r.lastT ≠ some x.t)

/-- The record after a fresh value. -/
def Freshness.take (x : Slot) : Freshness := ⟨0, some x.t, some x.data⟩

/-- The record after a period without a fresh value. -/
def Freshness.grow (r : Freshness) : Freshness := { r with age := satAdd 255 r.age 1 }

/-- The fresh value that a slot carries in a period: only a good frame carries one. -/
def freshIn (f : Option Frame) (i : SlotNo) (r : Freshness) : Option Slot :=
  (f.map (·.slots.get i)).filter r.isFresh

/-- One entry of the slot map is replaced. -/
def LoopPort.putSlot (l : LoopPort) (i : SlotNo) (e : SlotEntry) : LoopPort :=
  { l with slots := l.slots.set i e }

/-- The LOST flag of a sample binding takes a value. -/
def LoopPort.setLost (l : LoopPort) (b : SampleBinding) (v : Bool) : LoopPort :=
  { l with lostFlags := l.lostFlags.set (sampleIndex b) v }

/-- A SAMPLE entry is judged (R171), and the binding's state handed to its consumer. -/
def State.judgeSample (s : State) (f : Option Frame) (i : SlotNo) (b : SampleBinding) (limit : Nat)
    (r : Freshness) : State :=
  let l := s.loop
  match freshIn f i r with
  | some x =>
    let put := (l.putSlot i (.sample b limit (.take x))).setLost b false
    s.setLoop (put.hand b (if l.isLost b then .returned x.data else .fresh x.data))
  | none =>
    let put := l.putSlot i (.sample b limit r.grow)
    if l.isLost b then s.setLoop (put.hand b .lost)
    else if limit ≤ r.grow.age then
      (s.setLoop ((put.setLost b true).hand b .newlyLost)).note (.bindingNewlyLost b)
    else s.setLoop (put.hand b .notFresh)

/-- A COMMAND entry is judged (R173). -/
def State.judgeCommand (s : State) (f : Option Frame) (i : SlotNo) (b : CommandBinding) (limit : Nat)
    (r : Freshness) (c : CommandRecord) : State :=
  let l := s.loop
  match freshIn f i r with
  | some x =>
    let s := s.setLoop (l.putSlot i (.command b limit (.take x) { c with takenOver := false }))
    if c.takenOver then s.raiseNotice (.loop (.commandResumed b)) else s
  | none =>
    if limit ≤ r.grow.age ∧ ¬ c.takenOver then
      ((s.setLoop (l.putSlot i (.command b limit r.grow { c with takenOver := true }))).note
        (.takeover b)).raiseNotice (.loop (.commandStale b))
    else s.setLoop (l.putSlot i (.command b limit r.grow c))

/-- One entry of the slot map is judged; `f` is the frame of the period if it is a good one. -/
def State.judgeSlot (f : Option Frame) (s : State) (i : SlotNo) : State :=
  match s.loop.slots.get i with
  | .unused => s
  | .sample b limit r => s.judgeSample f i b limit r
  | .command b limit r c => s.judgeCommand f i b limit r c

/-- An unmapped sample binding is handed as not fresh (R170). -/
def State.handUnmapped (s : State) (b : SampleBinding) : State :=
  if s.loop.maps b then s else s.setLoop (s.loop.hand b .notFresh)

/-- The loop port judges its slots and hands on every sample binding (R165, R171, R173). The slots are judged in order
of slot number (DESIGN CHOICE, log 35). -/
def State.judgeSlots (s : State) (f : Option Frame) : State :=
  sampleBindings.foldl State.handUnmapped ((List.finRange 40).foldl (State.judgeSlot f) s)

/-- The command bindings that a good frame brings fresh (R173). -/
def LoopPort.freshCommands (l : LoopPort) (f : Option Frame) : List CommandBinding :=
  (List.finRange 40).filterMap (fun i => match l.slots.get i with
    | .command b _ r _ => (freshIn f i r).map (fun _ => b)
    | _ => none)

/-! ### The error window (R167) -/

/-- The quality clear count (R167). -/
def clearCount (threshold : Nat) : Nat := max 1 (threshold / 2)

/-- LOOP_QUALITY is present. -/
def State.qualityLow (s : State) : Bool := s.gate.stopSet.has .loopQuality

/-- LOOP_QUALITY is raised with its notice where the window count has reached the threshold (R167, R168). -/
def State.testQuality (s : State) : State :=
  if s.loop.threshold ≤ s.loop.windowCount ∧ ¬ s.qualityLow then
    ((s.note .qualityLow).raiseReason .loopQuality).raiseNotice (.loop .qualityLow)
  else s

/-- The end of a window (R167). -/
def State.endWindow (s : State) : State :=
  let s := s.note .windowEnd
  let s := if s.qualityLow ∧ s.loop.windowCount < clearCount s.loop.threshold then
      (s.clearReason .loopQuality).raiseNotice (.loop .qualityOk)
    else s
  s.setLoop { s.loop with windowPosition := 0, windowCount := 0 }

/-- A frame taken in RUN advances the window (R167). -/
def State.advanceWindow (s : State) (good : Bool) : State :=
  let s := if good then s
    else (s.setLoop { s.loop with windowCount := s.loop.windowCount + 1 }).testQuality
  let s := s.setLoop { s.loop with windowPosition := s.loop.windowPosition + 1 }
  if Config.windowLength ≤ s.loop.windowPosition then s.endWindow else s

/-! ### Loop states (R166) -/

/-- Entry to RUN (R166). The proving count, which has reached 8, then holds a free value of its range (log 1). -/
def State.enterRun (s : State) : State :=
  let d := s.draw
  let s := d.2.setLoop { s.loop with
    state := .run, provingCount := d.1.toNat % 8, missedCount := 0, windowPosition := 0,
    windowCount := 0, outage := 0, timebaseLocked := true }
  ((s.note .provingComplete).clearReason .loop).raiseNotice (.loop .loopRun)

/-- What RUN's loss takes from the service unit (R182, R185): the receiver and the reply. -/
def State.dropReply (s : State) : State :=
  let s' := s.setService { s.service with receiver := .idle, reply := none }
  if s.service.reply.isSome then s'.replyGone else s'

/-- The missed count after the loss of RUN: a missed count that has reached 3 then holds a free value of its range
(log 1). -/
def State.settleMissed (s : State) (loss : RunLoss) : State :=
  match loss with
  | .lineLost => s
  | .missedSync => s.draw.2.setLoop { s.loop with missedCount := s.draw.1.toNat % 3 }

/-- The state that a loss of RUN leads to (R166). -/
def lossLeadsTo : RunLoss → LoopState
  | .missedSync => .seeking
  | .lineLost => .down

/-- The loop leaves RUN (R166): the frames not yet formed give way to substitute frames (R174). -/
def State.leaveRun (s : State) (loss : RunLoss) : State :=
  let s := s.settleMissed loss
  let s := s.setLoop { s.loop with state := lossLeadsTo loss, timebaseLocked := false, toForm := [] }
  (((s.note (.runLost loss)).raiseReason .loop).raiseNotice (.loop .loopLost)).dropReply

/-- The line signal is lost (R166). -/
def lineLostEvent (s : State) : State :=
  let s := s.setPins { s.pins with lineSignal := false }
  if s.loop.state = .run then s.leaveRun .lineLost
  else s.setLoop { s.loop with state := .down }

/-- The line signal is present (R166). -/
def linePresentEvent (s : State) : State :=
  let s := s.setPins { s.pins with lineSignal := true }
  if s.loop.state = .down then s.setLoop { s.loop with state := .seeking } else s

/-- A good sync in PROVING (R166). -/
def State.proveFrame (s : State) (f : Frame) : State :=
  let s := s.setLoop { s.loop with syncSeen := true }
  if checkGood f then
    if 8 ≤ s.loop.provingCount + 1 then s.enterRun
    else s.setLoop { s.loop with provingCount := s.loop.provingCount + 1 }
  else s.setLoop { s.loop with provingCount := 0 }

/-- A frame arrives outside RUN: it judges the line alone (R166). `onTime` says that its sync came at the expected
time. -/
def outsideFrameEvent (f : Frame) (onTime : Bool) (s : State) : State :=
  if f.sync ≠ Config.syncPattern then s
  else match s.loop.state with
    | .seeking =>
      s.setLoop { s.loop with
        state := .proving, provingCount := if checkGood f then 1 else 0, syncSeen := true }
    | .proving => if onTime then s.proveFrame f else s
    | .down => s
    | .run => s

/-! ### The arrival of a frame in RUN (R165) -/

/-- The loop period event of a good or bad-check frame in RUN (R165): the slots are judged, the window advances, the
service unit takes the characters, and the frame waits to be formed on loop-out. That the slots are judged before the
window advances, so that a QUALITY notice replaces a COMMAND_STALE or COMMAND_RESUMED of the same event (R177), is a
DESIGN CHOICE (log 41). -/
def State.takeFrame (s : State) (f : Frame) : State :=
  let good := checkGood f
  let judged := if good then some f else none
  let fresh := s.loop.freshCommands judged
  let s := s.setLoop { s.loop with missedCount := 0 }
  let s := (s.judgeSlots judged).advanceWindow good
  let r := s.service.takeChars f good
  let waiting : WaitingFrame := ⟨f, good, r.2.1, r.2.2, fresh, s.service.reply.isSome⟩
  (s.setService r.1).setLoop { s.loop with toForm := s.loop.toForm ++ [waiting] }

/-- The arrival of a frame at loop-in: in RUN with a good sync it is the loop period event (R165), outside RUN it
judges the line (R166). -/
def framePeriod (f : Frame) (s : State) : State :=
  if s.loop.state = .run then
    if f.sync = Config.syncPattern then s.takeFrame f else s
  else outsideFrameEvent f true s

/-! ### The frame on loop-out (R172, R173) -/

/-- The command value of an entry (R173). -/
def commandValue (r : Freshness) (c : CommandRecord) : Half :=
  if c.takenOver then 0 else r.held.getD 0

/-- The axis of a command binding, none for the gate. -/
def commandAxis : CommandBinding → Option Axis
  | .travelCmd => some .travel
  | .reachCmd => some .reach
  | .dropCmd => some .drop
  | .gateCmd => none

/-- The owner's answer to a command value (R107, R137, R173): the value written, and the state after. -/
def State.answer (s : State) (b : CommandBinding) (v : Half) : Half × State :=
  match commandAxis b with
  | some a => (BitVec.ofInt 16 (s.clampCommand a v.toInt), s)
  | none => (BitVec.ofNat 16 (s.answerGate v).gate.lastWritten, s.answerGate v)

/-- The T written in a command slot (R173). -/
def writtenT (c : CommandRecord) (fresh : Bool) (arriving : Bool) (v : Half) : Bool :=
  if c.takenOver then !c.lastWrittenT
  else if fresh then
    if arriving = c.lastWrittenT ∧ v ≠ c.lastValue then !c.lastWrittenT else arriving
  else if v ≠ c.lastValue then !c.lastWrittenT else c.lastWrittenT

/-- One slot of the frame on loop-out (R172, R173), written into the frame. -/
def formSlot (w : WaitingFrame) (sf : State × Frame) (i : SlotNo) : State × Frame :=
  let s := sf.1
  let f := sf.2
  let x := f.slots.get i
  match s.loop.slots.get i with
  | .command b limit r c =>
    let a := s.answer b (commandValue r c)
    let t := writtenT c (w.fresh.contains b) x.t a.1
    (a.2.setLoop (s.loop.putSlot i
        (.command b limit r { c with lastValue := a.1, lastWrittenT := t })),
      { f with slots := f.slots.set i ⟨true, t, a.1⟩ })
  | _ => (s, if w.good then f else { f with slots := f.slots.set i { x with v := false } })

/-- The service field of the frame on loop-out (R180, R185): the two characters and the reply buffer after. -/
def formChars (w : WaitingFrame) (reply : Option Reply) : ServiceChar × ServiceChar × Option Reply :=
  let r1 := formChar w.frame.char1 w.good w.blank1 w.replyOk reply
  let r2 := formChar w.frame.char2 w.good w.blank2 w.replyOk r1.2
  (r1.1, r2.1, r2.2)

/-- The oldest waiting frame is formed on loop-out (R172, R173, R185, R188). -/
def State.formFrame (s : State) (w : WaitingFrame) : State :=
  let r := (List.finRange 40).foldl (formSlot w) (s, w.frame)
  let chars := formChars w s.service.reply
  let out := withCheck { r.2 with
    attention := w.frame.attention || !s.notices.isEmpty, char1 := chars.1, char2 := chars.2.1 }
  let s := r.1
  let ended := s.service.reply.isSome && chars.2.2.isNone
  let s := s.setLoop { s.loop with
    toForm := s.loop.toForm.tail, loopOut := some out, lastFrameCount := out.frameCount }
  let s := s.setService { s.service with reply := chars.2.2 }
  if ended then (s.note .replySent).replyGone else s

/-- The forming of the frame on loop-out, an event of its own (R165). -/
def frameFormationEvent (s : State) : State :=
  match s.loop.toForm with
  | [] => s
  | w :: _ => s.formFrame w

/-! ### Substitute frames and the outage (R174, R175) -/

/-- The slot of a substitute frame (R174). -/
def substituteSlot : SlotEntry → Slot
  | .command _ _ _ c => ⟨true, !c.lastWrittenT, 0⟩
  | _ => ⟨false, false, 0⟩

/-- An entry after a substitute frame (R174): the last written value becomes 0, the last written T the T written. -/
def SlotEntry.substituted : SlotEntry → SlotEntry
  | .command b limit r c =>
    .command b limit r { c with lastValue := 0, lastWrittenT := !c.lastWrittenT }
  | e => e

/-- An idle service character of the part's own (R174): P clear; the spec gives neither S nor data, which are free
(log 1). -/
def idleChar (free : BitVec 32) : ServiceChar := ⟨free.getLsbD 8, false, free.setWidth 8⟩

/-- A substitute frame is sent (R174). -/
def State.sendSubstitute (s : State) : State :=
  let d1 := s.draw
  let d2 := d1.2.draw
  let old := s.loop.slots
  let out := withCheck
    { sync := Config.syncPattern, frameCount := s.loop.lastFrameCount + 1,
      attention := !s.notices.isEmpty, slots := Vector.ofFn (fun i => substituteSlot (old.get i)),
      char1 := idleChar d1.1, char2 := idleChar d2.1, check := 0 }
  d2.2.setLoop { s.loop with
    slots := Vector.ofFn (fun i => (old.get i).substituted), loopOut := some out,
    lastFrameCount := out.frameCount }

/-- The outage counter counts a period outside RUN (R175). -/
def State.countOutage (s : State) : State :=
  if s.modes.mode = .loading then
    if Config.outageLimit ≤ s.loop.outage + 1 then
      ((s.setLoop { s.loop with outage := 0 }).raiseNotice (.loop .outage)).loopRestart
    else s.setLoop { s.loop with outage := s.loop.outage + 1 }
  else s

/-! ### The expiry of the timebase (R165) -/

/-- What a period without a good sync in RUN, or a period outside RUN, does to the loop state (R166). In DOWN the
period judges the line (R178). -/
def State.missPeriod (s : State) : State :=
  match s.loop.state with
  | .run =>
    if 3 ≤ s.loop.missedCount + 1 then s.leaveRun .missedSync
    else s.setLoop { s.loop with missedCount := s.loop.missedCount + 1 }
  | .proving => if s.loop.syncSeen then s else s.setLoop { s.loop with state := .seeking }
  | .down => if s.pins.lineSignal then s.setLoop { s.loop with state := .seeking } else s
  | .seeking => s

/-- What leaves on loop-out (R165): nothing in a missed period, a substitute frame outside RUN, where the outage is
counted too (R174, R175). -/
def State.endPeriod (s : State) : State :=
  let s := s.setLoop { s.loop with syncSeen := false }
  if s.loop.state = .run then s.setLoop { s.loop with loopOut := none }
  else s.sendSubstitute.countOutage

/-- The expiry of the part's own timebase (R165): every mapped slot ages. The slots are judged before the loop state
moves (DESIGN CHOICE, log 36). -/
def timebaseEvent (s : State) : State := ((s.judgeSlots none).missPeriod).endPeriod

/-- A loop period event of either kind (R165). -/
def periodEvent (p : LoopPeriod) (s : State) : State :=
  match p with
  | .frame f => framePeriod f s
  | .expiry => timebaseEvent s

/-- The event in which RUN is lost (R166). -/
def runLossEvent (loss : RunLoss) (s : State) : State :=
  match loss with
  | .missedSync => timebaseEvent s
  | .lineLost => lineLostEvent s

/-- The event in which a pending PART_RESET takes effect (R185, R194). -/
def resetCauseEvent (c : ResetCause) (s : State) : State :=
  match c with
  | .replyEnd => frameFormationEvent s
  | .replyDiscarded loss => runLossEvent loss s

/-! ### LOAD_SLOT and LOAD_LOOP (R168, R170) -/

/-- The record of a SAMPLE entry whose binding is new to the slot (R170). -/
def LoopPort.newSample (l : LoopPort) (b : SampleBinding) (limit : Nat) : SlotEntry :=
  .sample b limit ⟨if l.isLost b then limit else 0, none, none⟩

/-- The record of a COMMAND entry whose binding is new to the slot (R170). -/
def newCommand (b : CommandBinding) (limit : Nat) : SlotEntry :=
  .command b limit ⟨0, none, none⟩ ⟨false, 0, false⟩

/-- A sample binding takes its place in a slot (R170). -/
def State.loadSample (s : State) (i : SlotNo) (b : SampleBinding) (limit : Nat) : State × Answer :=
  match s.loop.slotOf b with
  | none => done (s.setLoop (s.loop.putSlot i (s.loop.newSample b limit)))
  | some j =>
    if j ≠ i then refuse .duplicate s
    else match s.loop.slots.get i with
      | .sample _ _ r => done (s.setLoop (s.loop.putSlot i (.sample b limit r)))
      | _ => refuse .duplicate s

/-- A command binding takes its place in a slot (R170). -/
def State.loadCommand (s : State) (i : SlotNo) (b : CommandBinding) (limit : Nat) : State × Answer :=
  match s.loop.commandSlotOf b with
  | none => done (s.setLoop (s.loop.putSlot i (newCommand b limit)))
  | some j =>
    if j ≠ i then refuse .duplicate s
    else match s.loop.slots.get i with
      | .command _ _ r c => done (s.setLoop (s.loop.putSlot i (.command b limit r c)))
      | _ => refuse .duplicate s

/-- LOAD_SLOT's work (R170). -/
def loadSlot (p : List Byte) (s : State) : State × Answer :=
  let v := readParams [.unsigned 1, .small, .unsigned 1, .unsigned 1] p
  let binding := paramNat v 2
  let limit := paramNat v 3
  if s.modes.mode ≠ .setup then refuse .wrongMode s
  else match indexed 40 (paramNat v 0), paramNat v 1 with
    | some i, 0 => done (s.setLoop (s.loop.putSlot i .unused))
    | some i, 1 =>
      match (numbered 15 binding).bind (fun n => sampleBindings[n.val]?), within 1 255 limit with
      | some b, true => s.loadSample i b limit
      | _, _ => refuse .badParam s
    | some i, 2 =>
      match (numbered 19 binding).bind (fun n =>
          if n.val < 15 then none else commandBindings[n.val - 15]?), within 1 255 limit with
      | some b, true => s.loadCommand i b limit
      | _, _ => refuse .badParam s
    | _, _ => refuse .badParam s

/-- LOAD_LOOP's work (R168). -/
def loadLoop (p : List Byte) (s : State) : State × Answer :=
  let v := paramNat (readParams [.unsigned 1] p) 0
  if !within 1 200 v then refuse .badParam s
  else done (s.setLoop { s.loop with threshold := v }).testQuality

/-! ### READ_LOOP (R176) -/

/-- Page 0 (R176). -/
def loopReport (s : State) : List Field :=
  let l := s.loop
  [.small l.state.number, .small l.provingCount, .small l.missedCount, .num 1 l.windowPosition,
   .num 1 l.windowCount, .num 1 l.threshold, .flag (s.gate.stopSet.has .loop), .flag s.qualityLow,
   .num 2 l.outage, .num 1 l.lastFrameCount.toNat]

/-- The freshness record of a mapped sample binding. -/
def LoopPort.freshnessOf (l : LoopPort) (i : SlotNo) : Option Freshness :=
  match l.slots.get i with
  | .sample _ _ r => some r
  | .command _ _ r _ => some r
  | .unused => none

/-- One sample binding's part of page 1 (R176). An unmapped binding has no age: a free value is sent (log 1). -/
def sampleReport (l : LoopPort) (free : BitVec 32) (b : SampleBinding) : List Field :=
  let r := (l.slotOf b).bind l.freshnessOf
  [.optNat 1 ((l.slotOf b).map (·.val)),
   .num 1 (r.elim ((free.toNat % 256 : Nat) : Int) (fun r => (r.age : Int))),
   .flag (l.isLost b), .flag (r.any (·.held.isSome))]

/-- One command binding's part of page 2 (R176). An unmapped binding has no record: its fields are sent absent (R199,
R200), but for the age, whose width leaves room for no absent mark: a free value is sent (log 1). The last written value
takes 2 characters, its absence 8000h: R169 calls it a signed 16-bit value, by which R199 would ask for a third, but what
R107 and R137 let be written stays above -32,768 (DESIGN CHOICE, log 4). -/
def commandReport (l : LoopPort) (free : BitVec 32) (b : CommandBinding) : List Field :=
  match (l.commandSlotOf b).map (fun i => (i, l.slots.get i)) with
  | some (i, .command _ _ r c) =>
    [.num 1 i.val, .num 1 r.age, .flag c.takenOver, .optInt 3 (r.held.map (·.toInt)),
     .num 2 c.lastValue.toInt, .flag c.lastWrittenT]
  | _ =>
    [.optNat 1 none, .num 1 ((free.toNat % 256 : Nat) : Int), .optSmall none, .optInt 3 none,
     .optInt 2 none, .optSmall none]

/-- One slot's part of pages 3 to 6 (R176): an UNUSED entry has neither binding nor stale limit. -/
def slotReport : SlotEntry → List Field
  | .unused => [.small 0, .optNat 1 none, .optNat 2 none]
  | .sample b limit _ => [.small 1, .num 1 (sampleNumber b), .optNat 2 (some limit)]
  | .command b limit _ _ => [.small 2, .num 1 (commandNumber b), .optNat 2 (some limit)]

/-- The report of a list of bindings, each with a free value of its own. -/
def reportAll {α : Type} (report : BitVec 32 → α → List Field) (s : State) (bs : List α) :
    State × List Field :=
  bs.foldl (fun r b => (r.1.draw.2, r.2 ++ report r.1.draw.1 b)) (s, [])

/-- READ_LOOP's work (R176). -/
def readLoop (p : List Byte) (s : State) : State × Answer :=
  match paramNat (readParams [.small] p) 0 with
  | 0 => done s (loopReport s)
  | 1 =>
    let r := reportAll (sampleReport s.loop) s sampleBindings
    done r.1 r.2
  | 2 =>
    let r := reportAll (commandReport s.loop) s commandBindings
    done r.1 r.2
  | n + 3 =>
    if n < 4 then done s (((s.loop.slots.toList.drop (10 * n)).take 10).flatMap slotReport)
    else refuse .badParam s

/-! ### Meanings -/

/-- LOAD_SLOT (R170), code 80h. -/
def execLoadSlot (p : List Byte) (s : State) : Host.Outcome State Fault Refusal :=
  s.take (·.serve 0x80#8 4 p (loadSlot p))

/-- LOAD_LOOP (R168), code 81h. -/
def execLoadLoop (p : List Byte) (s : State) : Host.Outcome State Fault Refusal :=
  s.take (·.serve 0x81#8 1 p (loadLoop p))

/-- READ_LOOP (R176), code 82h. -/
def execReadLoop (p : List Byte) (s : State) : Host.Outcome State Fault Refusal :=
  s.take (·.serve 0x82#8 1 p (readLoop p))

/-- LOOP_PERIOD_EVENT (R165): the arrival of a frame. -/
def execLoopPeriodEvent (f : Frame) (s : State) : Host.Outcome State Fault Refusal :=
  s.take (framePeriod f)

/-- TIMEBASE_EXPIRY (R165). -/
def execTimebaseExpiry (s : State) : Host.Outcome State Fault Refusal := s.take timebaseEvent

/-- LINE_SIGNAL_LOST (R166). While PORST is asserted only the pin follows. -/
def execLineSignalLost (s : State) : Host.Outcome State Fault Refusal :=
  .next (if s.pins.porst then s.setPins { s.pins with lineSignal := false } else s.event lineLostEvent)

/-- LINE_SIGNAL_PRESENT (R166). While PORST is asserted only the pin follows. -/
def execLineSignalPresent (s : State) : Host.Outcome State Fault Refusal :=
  .next (if s.pins.porst then s.setPins { s.pins with lineSignal := true }
    else s.event linePresentEvent)

/-- FRAME_ARRIVES_OUTSIDE_RUN (R166). -/
def execFrameArrivesOutsideRun (f : Frame) (onTime : Bool) (s : State) :
    Host.Outcome State Fault Refusal :=
  s.take (outsideFrameEvent f onTime)

/-- PROVING_COMPLETE (R166): the arrival of the frame that completes the proving count. -/
def execProvingComplete (f : Frame) (s : State) : Host.Outcome State Fault Refusal :=
  s.takeIf .provingComplete (outsideFrameEvent f true)

/-- RUN_LOST (R166): the event in which the loop leaves RUN. -/
def execRunLost (loss : RunLoss) (s : State) : Host.Outcome State Fault Refusal :=
  s.takeIf (.runLost loss) (runLossEvent loss)

/-- ERROR_WINDOW_END (R167): the arrival of the frame that ends the error window. -/
def execErrorWindowEnd (f : Frame) (s : State) : Host.Outcome State Fault Refusal :=
  s.takeIf .windowEnd (framePeriod f)

/-- QUALITY_LOW (R167): the arrival of the frame at which LOOP_QUALITY is raised. -/
def execQualityLow (f : Frame) (s : State) : Host.Outcome State Fault Refusal :=
  s.takeIf .qualityLow (framePeriod f)

/-- BINDING_NEWLY_LOST (R171): the loop period event in which the binding becomes newly LOST. -/
def execBindingNewlyLost (b : SampleBinding) (p : LoopPeriod) (s : State) :
    Host.Outcome State Fault Refusal :=
  s.takeIf (.bindingNewlyLost b) (periodEvent p)

/-- COMMAND_TAKEOVER (R173): the loop period event in which the command slot is taken over. -/
def execCommandTakeover (b : CommandBinding) (p : LoopPeriod) (s : State) :
    Host.Outcome State Fault Refusal :=
  s.takeIf (.takeover b) (periodEvent p)

/-- FRAME_FORMATION (R172, R173): the oldest frame taken in RUN is formed on loop-out. -/
def execFrameFormation (s : State) : Host.Outcome State Fault Refusal := s.take frameFormationEvent

/-- REPLY_SENT (R185): the forming of the frame that carries the reply's last character. -/
def execReplySent (s : State) : Host.Outcome State Fault Refusal :=
  s.takeIf .replySent frameFormationEvent

/-- PART_RESET effect (R194): the event in which the pending PART_RESET takes effect. -/
def execPartResetEffect (c : ResetCause) (s : State) : Host.Outcome State Fault Refusal :=
  s.takeIf .partReset (resetCauseEvent c)

/-- LOOP_RESTART (R175, R195): the expiry of the timebase at which the outage counter reaches 400. -/
def execLoopRestart (s : State) : Host.Outcome State Fault Refusal :=
  s.takeIf .loopRestart timebaseEvent

end Sys2Proof.Machine
end

