-- ==== Sys2Proof/Machine/Waiting.lean ====
section
/-! DEFINITION. What waits inside the part to be taken as an event of its own: a request in the request buffer
(R183), the states handed to the consumers and the frame to be formed (R165); and the plan's own turns, which come
about in such events (R69, R75). -/

namespace Sys2Proof.Machine

/-! ### The events that wait -/

/-- The request of each request code (R198). -/
def requestTable : List (Byte × (List Byte → Instr)) :=
  [(0x10, .loadWeigh), (0x11, .zeroScale), (0x12, .abortZero), (0x13, .readWeigh),
   (0x18, .readTransit), (0x20, .loadVessel), (0x21, .loadHold), (0x22, .readHold)]
  ++ [(0x30, .appendStep), (0x31, .insertStep), (0x32, .deleteStep), (0x33, .setTarget),
      (0x34, .skipStep), (0x35, .holdPlan), (0x36, .proceed), (0x37, .prunePlan),
      (0x38, .readPlan)]
  ++ [(0x40, .loadAxis), (0x41, .readSpout), (0x50, .loadZone), (0x51, .ackDust),
      (0x52, .readExposure), (0x53, .readZone), (0x60, .readGate), (0x61, .loadContact),
      (0x62, .ackContact)]
  ++ [(0x70, .openLot), (0x71, .closeBill), (0x72, .releaseBill), (0x73, .readBill),
      (0x80, .loadSlot), (0x81, .loadLoop), (0x82, .readLoop), (0x90, .pollNotice)]
  ++ [(0xA0, .beginLoading), (0xA1, .endLoading), (0xA2, .suspend), (0xA3, .resume),
      (0xA4, .readMode), (0xA5, .partReset)]

/-- The command that a request in the request buffer stands for (R183). -/
def requestCommand (r : Request) : Instr :=
  match requestTable.find? (fun e => e.1 == r.code) with
  | some e => e.2 r.params
  | none => .unknownRequest r.code r.params

/-- The event of a sample binding's consumer (R171); the weigher takes its two bindings in one (R3). -/
def consumerCommand : SampleBinding → Instr
  | .scaleLoad => .weighingEvent
  | .beltPulses => .weighingEvent
  | .travelPos => .axisSample .travel
  | .reachPos => .axisSample .reach
  | .dropPos => .axisSample .drop
  | .deckFore => .deckSample .fore
  | .deckAft => .deckSample .aft
  | .dust z => .dustSample z
  | .contacts => .contactsSample
  | .gatePos => .gatePosSample

/-- The request that waits in the request buffer, once the reply buffer is empty. -/
def State.waitingRequest (s : State) : Option Instr :=
  match s.service.request, s.service.reply with
  | some r, none => some (requestCommand r)
  | _, _ => none

/-- The first event that waits inside the part, in an order of the model's own (log 8): the request, then the
consumers in the order of R169, then the frame to be formed. -/
def State.waitingCommand (s : State) : Option Instr :=
  if s.pins.porst then none
  else match s.waitingRequest with
    | some i => some i
    | none => match sampleBindings.find? (fun b => !(s.waitingFor b).isEmpty) with
      | some b => some (consumerCommand b)
      | none => if s.loop.toForm.isEmpty then none else some .frameFormation

/-! ### The plan's turns (R69, R75) -/

/-- The event of a cause: what waits, a frame at loop-in, or a request without parameters. -/
def causeEvent (c : Cause) (s : State) : State :=
  match c with
  | .weighing => weighingEvent s
  | .axis a => axisEvent a s
  | .deck d => deckEvent d s
  | .dust z => dustEvent z s
  | .purge z => purgeEvent z s
  | .contacts => contactsEvent s
  | .gatePos => gatePosEvent s
  | .frame f => framePeriod f s
  | .frameOutsideRun f onTime => outsideFrameEvent f onTime s
  | .ackContact => s.serve 0x62#8 0 [] (ackContact [])
  | .abortZero => s.serve 0x12#8 0 [] (abortZero [])
  | .resume => s.serve 0xA3#8 0 [] (resume [])
  | .beginLoading => s.serve 0xA0#8 0 [] (beginLoading [])

/-- SPOUT_READY_POUR (R69): the event in which the plan's test in WAIT_SPOUT finds the spout ready. -/
def execSpoutReadyPour (c : Cause) (s : State) : Host.Outcome State Fault Refusal :=
  s.takeIf .spoutReadyPour (causeEvent c)

/-- INTERRUPTION_END (R75): the event in which the last reason other than PLAN clears. -/
def execInterruptionEnd (c : Cause) (s : State) : Host.Outcome State Fault Refusal :=
  s.takeIf .interruptionEnd (causeEvent c)

end Sys2Proof.Machine
end

