-- ==== Sys2Proof/Machine/Dispatch.lean ====
section
/-! DEFINITION. The dispatch of a command to its meaning: one arm for each constructor of `Instr`. -/

namespace Sys2Proof.Machine

def exec (i : Instr) (s : State) : Host.Outcome State Fault Refusal :=
  match i with
  | .loadWeigh p => Sys2Proof.Machine.execLoadWeigh p s
  | .zeroScale p => Sys2Proof.Machine.execZeroScale p s
  | .abortZero p => Sys2Proof.Machine.execAbortZero p s
  | .readWeigh p => Sys2Proof.Machine.execReadWeigh p s
  | .readTransit p => Sys2Proof.Machine.execReadTransit p s
  | .loadVessel p => Sys2Proof.Machine.execLoadVessel p s
  | .loadHold p => Sys2Proof.Machine.execLoadHold p s
  | .readHold p => Sys2Proof.Machine.execReadHold p s
  | .appendStep p => Sys2Proof.Machine.execAppendStep p s
  | .insertStep p => Sys2Proof.Machine.execInsertStep p s
  | .deleteStep p => Sys2Proof.Machine.execDeleteStep p s
  | .setTarget p => Sys2Proof.Machine.execSetTarget p s
  | .skipStep p => Sys2Proof.Machine.execSkipStep p s
  | .holdPlan p => Sys2Proof.Machine.execHoldPlan p s
  | .proceed p => Sys2Proof.Machine.execProceed p s
  | .prunePlan p => Sys2Proof.Machine.execPrunePlan p s
  | .readPlan p => Sys2Proof.Machine.execReadPlan p s
  | .loadAxis p => Sys2Proof.Machine.execLoadAxis p s
  | .readSpout p => Sys2Proof.Machine.execReadSpout p s
  | .loadZone p => Sys2Proof.Machine.execLoadZone p s
  | .ackDust p => Sys2Proof.Machine.execAckDust p s
  | .readExposure p => Sys2Proof.Machine.execReadExposure p s
  | .readZone p => Sys2Proof.Machine.execReadZone p s
  | .readGate p => Sys2Proof.Machine.execReadGate p s
  | .loadContact p => Sys2Proof.Machine.execLoadContact p s
  | .ackContact p => Sys2Proof.Machine.execAckContact p s
  | .openLot p => Sys2Proof.Machine.execOpenLot p s
  | .closeBill p => Sys2Proof.Machine.execCloseBill p s
  | .releaseBill p => Sys2Proof.Machine.execReleaseBill p s
  | .readBill p => Sys2Proof.Machine.execReadBill p s
  | .loadSlot p => Sys2Proof.Machine.execLoadSlot p s
  | .loadLoop p => Sys2Proof.Machine.execLoadLoop p s
  | .readLoop p => Sys2Proof.Machine.execReadLoop p s
  | .pollNotice p => Sys2Proof.Machine.execPollNotice p s
  | .beginLoading p => Sys2Proof.Machine.execBeginLoading p s
  | .endLoading p => Sys2Proof.Machine.execEndLoading p s
  | .suspend p => Sys2Proof.Machine.execSuspend p s
  | .resume p => Sys2Proof.Machine.execResume p s
  | .readMode p => Sys2Proof.Machine.execReadMode p s
  | .partReset p => Sys2Proof.Machine.execPartReset p s
  | .unknownRequest code p => Sys2Proof.Machine.execUnknownRequest code p s
  | .requestOverrun code p => Sys2Proof.Machine.execRequestOverrun code p s
  | .loopPeriodEvent f => Sys2Proof.Machine.execLoopPeriodEvent f s
  | .timebaseExpiry => Sys2Proof.Machine.execTimebaseExpiry s
  | .lineSignalLost => Sys2Proof.Machine.execLineSignalLost s
  | .lineSignalPresent => Sys2Proof.Machine.execLineSignalPresent s
  | .provingComplete f => Sys2Proof.Machine.execProvingComplete f s
  | .runLost loss => Sys2Proof.Machine.execRunLost loss s
  | .errorWindowEnd f => Sys2Proof.Machine.execErrorWindowEnd f s
  | .qualityLow f => Sys2Proof.Machine.execQualityLow f s
  | .bindingNewlyLost b period => Sys2Proof.Machine.execBindingNewlyLost b period s
  | .commandTakeover b period => Sys2Proof.Machine.execCommandTakeover b period s
  | .frameFormation => Sys2Proof.Machine.execFrameFormation s
  | .replySent => Sys2Proof.Machine.execReplySent s
  | .weighingEvent => Sys2Proof.Machine.execWeighingEvent s
  | .pulsesImplausibleLost => Sys2Proof.Machine.execPulsesImplausibleLost s
  | .pulseRearm => Sys2Proof.Machine.execPulseRearm s
  | .segmentClose => Sys2Proof.Machine.execSegmentClose s
  | .deferredClose => Sys2Proof.Machine.execDeferredClose s
  | .parcelDischarge => Sys2Proof.Machine.execParcelDischarge s
  | .zeroComplete => Sys2Proof.Machine.execZeroComplete s
  | .spoutReadyPour c => Sys2Proof.Machine.execSpoutReadyPour c s
  | .interruptionEnd c => Sys2Proof.Machine.execInterruptionEnd c s
  | .drainStart => Sys2Proof.Machine.execDrainStart s
  | .drainComplete => Sys2Proof.Machine.execDrainComplete s
  | .deckSample d => Sys2Proof.Machine.execDeckSample d s
  | .axisSample a => Sys2Proof.Machine.execAxisSample a s
  | .axisUnknown a => Sys2Proof.Machine.execAxisUnknown a s
  | .axisRecovery a => Sys2Proof.Machine.execAxisRecovery a s
  | .dustSample z => Sys2Proof.Machine.execDustSample z s
  | .dustRise z => Sys2Proof.Machine.execDustRise z s
  | .dustFall z => Sys2Proof.Machine.execDustFall z s
  | .dustStopFall z => Sys2Proof.Machine.execDustStopFall z s
  | .purgeTimerTick z => Sys2Proof.Machine.execPurgeTimerTick z s
  | .purgeExpiry z => Sys2Proof.Machine.execPurgeExpiry z s
  | .dustLatch z => Sys2Proof.Machine.execDustLatch z s
  | .dustReturn z => Sys2Proof.Machine.execDustReturn z s
  | .contactsSample => Sys2Proof.Machine.execContactsSample s
  | .contactDebounceChange n => Sys2Proof.Machine.execContactDebounceChange n s
  | .gatePosSample => Sys2Proof.Machine.execGatePosSample s
  | .porstAsserted => Sys2Proof.Machine.execPorstAsserted s
  | .powerOn straps bkvalid => Sys2Proof.Machine.execPowerOn straps bkvalid s
  | .partResetEffect cause => Sys2Proof.Machine.execPartResetEffect cause s
  | .loopRestart => Sys2Proof.Machine.execLoopRestart s
  | .frameArrivesOutsideRun f onTime => Sys2Proof.Machine.execFrameArrivesOutsideRun f onTime s

end Sys2Proof.Machine
end

