-- ==== Sys2Proof/Machine/Step.lean ====
section
/-! DEFINITION. One step: the command at the front of the queue, or, with none there, what waits inside the part. -/

namespace Sys2Proof.Machine

/-- One step. The command at the front of the queue is taken off it and executed. On an empty queue the part takes the
first event that waits inside it (log 8), and where none waits it idles. -/
def step (s : State) : Host.Outcome State Fault Refusal :=
  match s.pending with
  | c :: rest => exec c (s.setPending rest)
  | [] => match s.waitingCommand with
    | some c => exec c s
    | none => .next s

/-- The state with the command that a table word spells put at the front of its queue; unchanged where the word
spells none (log 7). -/
def State.withFetchWord (s : State) (nbits w : Nat) : State :=
  match decodeTableWord nbits w with
  | some c => s.setPending (c :: s.pending)
  | none => s

end Sys2Proof.Machine
end

