-- ==== Sys2Proof/Safety.lean ====
section
/-! DEFINITION. What counts as a safe run, in the terms the statements use: a step is always answered with a next
state, and the states keep the agreements that the spec's rules lay down between a block and its stop reason, within
the notice queue and within the plan list. -/

namespace Sys2Proof.Machine

/-- The outcome is a next state. -/
def answersNext (o : Host.Outcome State Fault Refusal) : Bool :=
  match o with
  | .next _ => true
  | .fault _ => false
  | .refused _ => false

/-- The notice queue holds at most one notice per source (R186). -/
def State.noticesDistinct (s : State) : Prop := (s.notices.map (fun n => n.event.source)).Nodup

/-- MODE is present exactly while the mode is not LOADING (R135, R190). -/
def State.modeAgrees (s : State) : Prop :=
  s.gate.stopSet.has .mode = decide (s.modes.mode ≠ .loading)

/-- LOOP is present exactly while the loop state is not RUN (R135, R166). -/
def State.loopAgrees (s : State) : Prop :=
  s.gate.stopSet.has .loop = decide (s.loop.state ≠ .run)

/-- PLAN is present exactly while the plan is not POURING (R64, R135). -/
def State.planAgrees (s : State) : Prop :=
  s.gate.stopSet.has .plan = decide (s.plan.state ≠ .pouring)

/-- PULL_CORD is present exactly while the pull-cord latch is set (R145). -/
def State.latchAgrees (s : State) : Prop := s.gate.stopSet.has .pullCord = s.contacts.latch

/-- ZEROING is present exactly while a zero calibration is running (R15). -/
def State.zeroingAgrees (s : State) : Prop :=
  s.gate.stopSet.has .zeroing = s.weigher.zeroCal.running

/-- WEIGH is present exactly while the scale or the pulse tracker is LOST (R15). -/
def State.weighAgrees (s : State) : Prop :=
  s.gate.stopSet.has .weigh = (s.weigher.scaleLost || decide (s.weigher.tracker = .lost))

/-- DECK is present exactly while a deck binding is LOST or the deck is not established (R50). -/
def State.deckAgrees (s : State) : Prop := s.gate.stopSet.has .deck = s.holds.deckUnsure

/-- GATE_FEEDBACK is present exactly while the GATE_POS LOST mark is set (R138). -/
def State.gateAgrees (s : State) : Prop := s.gate.stopSet.has .gateFeedback = s.gate.positionLost

/-- Each DUST reason is present exactly while its zone is in STOP, PURGE, LATCHED or LOST (R128). -/
def State.dustAgrees (s : State) : Prop :=
  ∀ z : ZoneNo, s.gate.stopSet.has (.dust z) = (s.dust.get z).state.stops

/-- The stop reasons of these owners agree with what the owners hold (R135). -/
structure State.ReasonsAgree (s : State) : Prop where
  mode : s.modeAgrees
  loop : s.loopAgrees
  plan : s.planAgrees
  latch : s.latchAgrees
  zeroing : s.zeroingAgrees
  weigh : s.weighAgrees
  deck : s.deckAgrees
  gate : s.gateAgrees
  dust : s.dustAgrees

/-- The step is DONE or SKIPPED. -/
def Step.ended (st : Step) : Bool := decide (st.state = .done ∨ st.state = .skipped)

/-- The list order of R63: DONE and SKIPPED steps, then at most one ACTIVE step, then PENDING steps. -/
def listOrdered (steps : List Step) : Prop :=
  ∃ ended active pending, steps = ended ++ active ++ pending
    ∧ (∀ st ∈ ended, st.ended = true) ∧ active.length ≤ 1
    ∧ (∀ st ∈ active, st.state = .active) ∧ (∀ st ∈ pending, st.state = .pending)

/-- The plan list is ordered (R63), and a step is ACTIVE in every plan state except IDLE (R64). -/
def State.planOrdered (s : State) : Prop :=
  listOrdered s.plan.steps ∧ (s.plan.state = .idle ↔ s.plan.active = none)

/-- The figures of a lot add up (R154): its weighed figure is the sum of the hold entries, spill, unresolved and
in-transit. -/
def Lot.balanced (l : Lot) : Prop :=
  l.weighed = l.entrySum + l.spill + l.unresolved + l.inTransit

/-! ### The rows inside an event (log 2) -/

/-- The command of the event in which RUN is lost (R166). -/
def lossCommand : RunLoss → Instr
  | .missedSync => .timebaseExpiry
  | .lineLost => .lineSignalLost

/-- The command of a loop period event (R165). -/
def periodCommand : LoopPeriod → Instr
  | .frame f => .loopPeriodEvent f
  | .expiry => .timebaseExpiry

/-- The command of the event in which a plan's turn comes about (R69, R75). -/
def causeCommand : Cause → Instr
  | .weighing => .weighingEvent
  | .axis a => .axisSample a
  | .deck d => .deckSample d
  | .dust z => .dustSample z
  | .purge z => .purgeTimerTick z
  | .contacts => .contactsSample
  | .gatePos => .gatePosSample
  | .frame f => .loopPeriodEvent f
  | .frameOutsideRun f onTime => .frameArrivesOutsideRun f onTime
  | .ackContact => .ackContact []
  | .abortZero => .abortZero []
  | .resume => .resume []
  | .beginLoading => .beginLoading []

/-- For a row of the table that names what comes about inside an event: what it names, and the command of that event
(95_what_each_step_holds.md, log 2). -/
def insideEvent : Instr → Option (Occurrence × Instr)
  | .provingComplete f => some (.provingComplete, .frameArrivesOutsideRun f true)
  | .runLost loss => some (.runLost loss, lossCommand loss)
  | .errorWindowEnd f => some (.windowEnd, .loopPeriodEvent f)
  | .qualityLow f => some (.qualityLow, .loopPeriodEvent f)
  | .bindingNewlyLost b p => some (.bindingNewlyLost b, periodCommand p)
  | .commandTakeover b p => some (.takeover b, periodCommand p)
  | .replySent => some (.replySent, .frameFormation)
  | .pulsesImplausibleLost => some (.pulsesImplausibleLost, .weighingEvent)
  | .pulseRearm => some (.pulseRearm, .weighingEvent)
  | .segmentClose => some (.segmentClose, .weighingEvent)
  | .deferredClose => some (.deferredClose, .weighingEvent)
  | .parcelDischarge => some (.parcelDischarge, .weighingEvent)
  | .zeroComplete => some (.zeroComplete, .weighingEvent)
  | .spoutReadyPour c => some (.spoutReadyPour, causeCommand c)
  | .interruptionEnd c => some (.interruptionEnd, causeCommand c)
  | .drainStart => some (.drainStart, .gatePosSample)
  | .drainComplete => some (.drainComplete, .weighingEvent)
  | .axisUnknown a => some (.axisUnknown a, .axisSample a)
  | .axisRecovery a => some (.axisRecovery a, .axisSample a)
  | .dustRise z => some (.dustRise z, .dustSample z)
  | .dustFall z => some (.dustFall z, .dustSample z)
  | .dustStopFall z => some (.dustStopFall z, .dustSample z)
  | .purgeExpiry z => some (.purgeExpiry z, .purgeTimerTick z)
  | .dustLatch z => some (.dustLatch z, .dustSample z)
  | .dustReturn z => some (.dustReturn z, .dustSample z)
  | .contactDebounceChange i => some (.contactChange i, .contactsSample)
  | .partResetEffect .replyEnd => some (.partReset, .frameFormation)
  | .partResetEffect (.replyDiscarded loss) => some (.partReset, lossCommand loss)
  | .loopRestart => some (.loopRestart, .timebaseExpiry)
  | _ => none

/-! ### Requests and replies, as the statements speak of them -/

/-- A request with this many parameter characters is heard: PORST is not asserted, the reply buffer is empty and the
request carries as many as its code asks for (R183, R194). -/
def State.hears (s : State) (count : Nat) (p : List Byte) : Prop :=
  s.pins.porst = false ∧ s.service.reply = none ∧ p.length = count

/-- The service unit once a request has been answered with a result and data, these notices being queued (R183,
R184, R197): the request has left the request buffer, the OVERRUN flag is reported and cleared, and the reply stands
unsent in the reply buffer. -/
def State.answering (s : State) (queued : List Notice) (code : Byte) (p : List Byte) (result : ResultCode)
    (data : List Field) : Service :=
  { s.service with
    request := if s.service.request = some ⟨code, p⟩ then none else s.service.request
    overrun := false
    reply := some ⟨0 :: BitVec.ofNat 8 (2 + (encodeFields data).length) :: code ::
      BitVec.ofNat 8 (result.number + (if s.service.overrun then 64 else 0)
        + (if queued = [] then 0 else 128)) :: encodeFields data, 0⟩ }

/-- A request refused with a code: the reply carries the code, and nothing else has changed (Conventions). -/
def State.refused (s : State) (code : Byte) (p : List Byte) (result : ResultCode) : State :=
  { s with service := s.answering s.notices code p result [], came := [] }

/-- A read answered DONE with data: nothing else has changed. -/
def State.readOut (s : State) (code : Byte) (p : List Byte) (data : List Field) : State :=
  { s with service := s.answering s.notices code p .done data, came := [] }

/-- The notice queue of `t` is that of `s` with a notice of the event, whose summary shows `t` (R186). -/
def State.posted (s t : State) (e : Event) : Prop :=
  t.notices = postNotice ⟨e, t.summary e⟩ s.notices

/-- The notice queue of the state holds a notice of the event, whose summary shows the state (R186). -/
def State.announces (t : State) (e : Event) : Prop := ⟨e, t.summary e⟩ ∈ t.notices

/-- The notice queue of the state holds a notice of the event, with the summary of the moment it was raised at. -/
def State.tells (t : State) (e : Event) : Prop := ∃ fields, ⟨e, fields⟩ ∈ t.notices

/-- The notice of this source stands as it stood, where one is queued. -/
def State.silent (s t : State) (src : Source) : Prop :=
  ∀ n : Notice, n.event.source = src → (n ∈ t.notices ↔ n ∈ s.notices)

/-- The SPOUT notices of a recomputation that takes the spout's position state from that of `s` to that of `t` (R110):
UNKNOWN and STRAY at their entry, RECOVERED where UNKNOWN is left for another state than STRAY, and none otherwise. -/
structure State.SpoutTold (s t : State) : Prop where
  unknown : t.spout.position = .unknown → s.spout.position ≠ .unknown → t.announces (.spout .unknown)
  stray : t.spout.position = .stray → s.spout.position ≠ .stray → t.announces (.spout .stray)
  recovered : s.spout.position = .unknown → t.spout.position ≠ .unknown → t.spout.position ≠ .stray →
    t.announces (.spout .recovered)
  silent : t.spout.position = s.spout.position ∨ (s.spout.position ≠ .unknown ∧ t.spout.position ≠ .unknown
    ∧ t.spout.position ≠ .stray) → s.silent t .spout

/-- An input of the role has changed its accepted state. -/
def State.inputMoved (s t : State) (role : ContactRole) : Bool :=
  (List.finRange 16).any (fun i => decide ((t.contacts.inputs.get i).role = role)
    && (t.contacts.inputs.get i).active != (s.contacts.inputs.get i).active)

/-- The CONTACT notice of the changes of one CONTACTS event (R145, R147 to R149): the last of PULL_CORD, the one of SWAY
and HATCH_CLOSED, which are raised in this order. -/
def State.changeNotice (s t : State) : Option ContactEvent :=
  let cord := if (List.finRange 16).any (fun i => decide ((t.contacts.inputs.get i).role = .pullCord)
    && (t.contacts.inputs.get i).active && !(s.contacts.inputs.get i).active) then some .pullCord else none
  let sway := if s.inputMoved t .beltSway && s.gate.stopSet.has .sway != t.contacts.swayActive then
    some (if t.contacts.swayActive then .swayOn else .swayOff) else none
  let hatch := s.plan.active.bind (fun st => if s.inputMoved t (.hatchOpen st.hold)
    && !t.contacts.hatchOpen st.hold && !s.gate.stopSet.has .hatch then some (.hatchClosed st.hold) else none)
  (hatch.or sway).or cord

/-- What a CONTACTS event tells (R143, R149): the notice of its changes; without one the binding's own, which is raised
before the inputs change and shows them so; and without either nothing. -/
structure State.ContactsTold (s t : State) (own : Option ContactEvent) : Prop where
  change : ∀ e, s.changeNotice t = some e → t.announces (.contact e)
  binding : ∀ e, s.changeNotice t = none → own = some e → ⟨.contact e, State.summary { t with
    contacts := { t.contacts with inputs := s.contacts.inputs } } (.contact e)⟩ ∈ t.notices
  silent : s.changeNotice t = none → own = none → s.silent t .contact

/-- The LOOP notice of a slot in a period in which it is brought a fresh value or not (R173, R177). -/
def SlotEntry.loopEvent (brought : Freshness → Bool) : SlotEntry → Option LoopEvent
  | .command b limit r c =>
    if brought r = true then if c.takenOver = true then some (.commandResumed b) else none
    else if c.takenOver = false ∧ limit ≤ min 255 (r.age + 1) then some (.commandStale b) else none
  | _ => none

/-- What no event of the belt, the spout or the plan touches: the dust zones, the contacts, the modes, the pins, the
free values drawn and the queue of commands. -/
def State.keepsRest (s t : State) : Prop :=
  t.dust = s.dust ∧ t.contacts = s.contacts ∧ t.modes = s.modes ∧ t.pins = s.pins
    ∧ t.freeCount = s.freeCount ∧ t.pending = s.pending

/-- What no sample event touches: the service unit, the modes, the pins, the free values drawn and the queue of
commands. -/
def State.keepsDesk (s t : State) : Prop :=
  t.service = s.service ∧ t.modes = s.modes ∧ t.pins = s.pins ∧ t.freeCount = s.freeCount
    ∧ t.pending = s.pending

/-- Where the plan is IDLE, a change of a table or a sample reaches nothing beyond the hold table, the spout, the
stop set, the caps, the notices and the reply. -/
def State.onlySpoutFollows (s t : State) : Prop :=
  s.plan.state = .idle → t = { s with
    holds := t.holds, spout := t.spout, gate := t.gate, notices := t.notices, service := t.service,
    loop := t.loop, came := t.came }

/-- A dust zone's reason, HIGH cap and drop reduction stand as its state has them, a change of its state stands in the
notice queue, and no other zone has changed (R128 to R131). -/
structure State.ZoneHandedOn (s t : State) (z : ZoneNo) : Prop where
  others : ∀ y, y ≠ z → t.dust.get y = s.dust.get y
  reason : t.gate.stopSet.has (.dust z) = (t.dust.get z).state.stops
  cap : t.gate.highCaps.get z =
    if (t.dust.get z).state = .high then (t.dust.get z).record.map (·.highCap) else none
  reduction : z.val < 2 → t.spout.reductionOf z =
    if (t.dust.get z).state = .high then (t.dust.get z).record.elim 0 (·.reduction) else 0
  notice : (t.dust.get z).state ≠ (s.dust.get z).state → t.announces (.dust z (t.dust.get z).state)
  kept : t.holds = s.holds ∧ t.contacts = s.contacts ∧ t.modes = s.modes ∧ t.pins = s.pins
    ∧ t.freeCount = s.freeCount ∧ t.pending = s.pending

/-- The state that a purge expires into for a latest sample (R121): the first level, lowered by the hysteresis, that the
sample reaches. -/
def ZoneRecord.bandAt (r : ZoneRecord) (latest : Nat) : ZoneState :=
  if r.stop - r.hysteresis ≤ latest then .stop
  else if r.high - r.hysteresis ≤ latest then .high
  else if r.warn - r.hysteresis ≤ latest then .warn
  else .clear

/-- A zone right after its entry to PURGE, which a purge time of 0 expires at once (R120, R121, R124, R127). -/
def Zone.purged (z : Zone) (r : ZoneRecord) (latest : Nat) : Zone :=
  { z with
    fallCount := 0
    state := if 0 < r.purgeTime then .purge else r.bandAt latest
    purgeTimer := if 0 < r.purgeTime then some r.purgeTime else none }

/-- A zone that has taken a sample into its latest sample, its rise counts and its exposure counter (R118, R122). -/
def Zone.having (z : Zone) (r : ZoneRecord) (x : Nat) : Zone :=
  { z with
    latest := some x
    warnCount := if r.warn ≤ x then min 50 (z.warnCount + 1) else 0
    highCount := if r.high ≤ x then min 50 (z.highCount + 1) else 0
    stopCount := if r.stop ≤ x then min 50 (z.stopCount + 1) else 0
    exposure := if z.state = .high ∨ z.state = .stop ∨ z.state = .purge ∨ z.state = .latched
      then min 65535 (z.exposure + 1) else z.exposure }

/-- SWAY, HATCH and the tip contact follow the inputs that have changed (R101, R147, R148): SWAY a BELT_SWAY input, HATCH
a HATCH_OPEN input of the active step's hold, the tip contact flag the one TIP_CONTACT input. -/
structure State.contactsFollow (s t : State) : Prop where
  sway : ∀ i, (s.contacts.inputs.get i).role = .beltSway →
    (t.contacts.inputs.get i).active ≠ (s.contacts.inputs.get i).active →
    t.gate.stopSet.has .sway = t.contacts.swayActive
  hatch : ∀ i st, s.plan.active = some st → (s.contacts.inputs.get i).role = .hatchOpen st.hold →
    (t.contacts.inputs.get i).active ≠ (s.contacts.inputs.get i).active →
    t.gate.stopSet.has .hatch = !t.contacts.hatchOpen st.hold
  tip : ∀ i, (s.contacts.inputs.get i).role = .tipContact →
    (∀ j, (s.contacts.inputs.get j).role = .tipContact → j = i) →
    t.spout.tipContact = if (t.contacts.inputs.get i).active = (s.contacts.inputs.get i).active
      then s.spout.tipContact else (t.contacts.inputs.get i).active

/-- A good frame brings a slot with this freshness record a fresh value (R171, R173). -/
def Freshness.broughtBy (r : Freshness) (f : Frame) (i : SlotNo) : Bool :=
  decide (f.check = frameCheck f) && (f.slots.get i).v && decide (r.lastT ≠ some (f.slots.get i).t)

/-- A loop period event that brings these fresh values to the SAMPLE slots hands every sample binding on (R170, R171):
what it hands waits behind what waits already, and the LOST flag follows it. -/
structure State.HandsOn (s t : State) (fresh : SlotNo → Freshness → Option Half) : Prop where
  mapped : ∀ i b limit r, s.loop.slots.get i = .sample b limit r →
    (∀ j, j ≠ i → (s.loop.slots.get j).sampleBinding ≠ some b) →
    t.loop.isLost b = ((fresh i r).isNone && (s.loop.isLost b || decide (limit ≤ min 255 (r.age + 1))))
    ∧ t.waitingFor b = s.waitingFor b ++ [match fresh i r, s.loop.isLost b with
      | some x, true => .returned x
      | some x, false => .fresh x
      | none, true => .lost
      | none, false => if limit ≤ min 255 (r.age + 1) then .newlyLost else .notFresh]
  unmapped : ∀ b, (∀ i, (s.loop.slots.get i).sampleBinding ≠ some b) →
    t.loop.isLost b = s.loop.isLost b ∧ t.waitingFor b = s.waitingFor b ++ [.notFresh]

/-- The plan state that a stop leads to (R76): STOPPING, or DRAINING from this odometer where the gate shows closed. -/
def State.stopsWith (s : State) (cause : StopCause) (odometer : Count32) : PlanState :=
  if s.gateShowsClosed = true then .draining cause odometer else .stopping cause

/-- The cause with which the tests at an entry to POURING call for a stop (R71 to R73): the target before the trim, and
the trim before the cargo. -/
def State.entryCause (t : State) : Option StopCause :=
  if t.anticipationMet = true then some .target
  else if t.trimExceeded = true then some .trim
  else if t.cargoReached = true then some .cargo
  else none

/-- `t` is left by an entry to POURING (R71) of an ACTIVE step with these interruption kinds; the bills before it are
those of `s`. The lot tag names the step's bill. A pour whose target or limit is met stops with that cause, draining at
once where the gate shows closed (R72, R73, R76); one against which reasons stand is INTERRUPTED with them as its kinds,
a DUST reason among them being counted for the bill (R74, R155); any other pours, with PLAN cleared. -/
structure State.PourEntered (s t : State) (kinds : ReasonSet) (topUp : Bool) : Prop where
  tagged : t.plan.active ≠ none ∧ t.weigher.tag = t.plan.active.map (·.bill)
  stops : ∀ c, t.entryCause = some c → t.plan.state = t.stopsWith c t.weigher.odometer
    ∧ t.gate.stopSet.has .plan = true
    ∧ t.announces (.plan (if t.gateShowsClosed = true then .draining else .stopping))
  interrupts : t.entryCause = none → t.gate.stopSet.others.isEmpty = false →
    t.plan.state = .interrupted ∧ t.gate.stopSet.has .plan = true ∧ t.announces (.plan .interrupted)
  pours : t.entryCause = none → t.gate.stopSet.others.isEmpty = true →
    t.plan.state = .pouring ∧ t.gate.stopSet.has .plan = false
    ∧ t.announces (.plan (if topUp = true then .topUp else .pouring))
  kinds : t.plan.active.map (·.kinds)
    = some (if t.plan.state = .interrupted then t.gate.stopSet.others else kinds)
  dustStop : ∀ st l, t.plan.active = some st → s.bills.records.get st.bill = .opened l →
    t.bills.records.get st.bill = .opened (
      if t.plan.state = .interrupted ∧ ∃ z, t.gate.stopSet.has (.dust z) = true
      then { l with dustStops := min 65535 (l.dustStops + 1) } else l)

/-- The step that stood PENDING at a position of this list has been activated (R66, R67, R69, R71, R78): it is ACTIVE
with the figures it had and gives the lot tag; the activation check, of which this is the outcome, blocks it, or the plan
waits for the spout, waits for PROCEED or enters POURING. The bills before it are those of `s`. -/
structure State.Activated (s t : State) (list : List Step) (i : Nat) (st : Step) (check : Option BlockReason) :
    Prop where
  steps : ∃ st', t.plan.steps = list.set i st' ∧ st' = { st with state := .active, kinds := st'.kinds }
  tag : t.weigher.tag = some st.bill
  cap : t.gate.topUpCap = if 1 ≤ st.topUps then t.holds.vessel.map (·.topUpCap) else none
  blocks : ∀ r, check = some r → t.plan.state = .blocked r
  waits : check = none → t.spoutReady = false → t.plan.state = .waitSpout
  breaks : check = none → t.spoutReady = true →
    st.resumeNeeded = true ∨ (st.breakFlag = true ∧ st.breakPassed = false) → t.plan.state = .waitProceed
  pours : check = none → t.spoutReady = true → st.resumeNeeded = false →
    st.breakFlag = false ∨ st.breakPassed = true → s.PourEntered t .empty false

/-- This is the first PENDING step of the list, and its position. -/
def firstPendingAt (list : List Step) (i : Nat) (st : Step) : Prop :=
  list[i]? = some st ∧ st.state = .pending ∧ ∀ x ∈ list.take i, x.state ≠ .pending

/-- The weigher is as it was but for the lot tag. -/
def State.weigherButTag (s t : State) : Prop := t.weigher = { s.weigher with tag := t.weigher.tag }

/-- The parameter count of each request code (R198). -/
def parameterCounts : List (Byte × Nat) :=
  [(0x10, 20), (0x11, 0), (0x12, 0), (0x13, 1), (0x18, 0), (0x20, 47), (0x21, 27), (0x22, 1),
   (0x30, 6), (0x31, 7), (0x32, 1), (0x33, 5), (0x34, 1), (0x35, 0), (0x36, 0), (0x37, 0), (0x38, 1),
   (0x40, 12), (0x41, 1), (0x50, 19), (0x51, 1), (0x52, 1), (0x53, 1), (0x60, 1), (0x61, 25), (0x62, 0)]
  ++ [(0x70, 7), (0x71, 1), (0x72, 1), (0x73, 1), (0x80, 4), (0x81, 1), (0x82, 1), (0x90, 0),
      (0xA0, 0), (0xA1, 0), (0xA2, 0), (0xA3, 0), (0xA4, 0), (0xA5, 0)]

/-! ### The receiver, as the statements speak of it (R180 to R183) -/

/-- What the service unit makes of one arriving character: `v` before it and `v'` after, `good` the check of its
frame, `unsent` whether a reply is not fully sent as it arrives, `blank` whether it is blanked on loop-out. That a message
that completes while a request still waits in the request buffer is discarded for overrun is the model's choice (DESIGN
CHOICE, log 5). -/
structure Service.Receives (v v' : Service) (good unsent : Bool) (c : ServiceChar) (blank : Bool) : Prop where
  idleChar : c.p = false → v' = v ∧ blank = false
  starts : c.p = true → c.s = true → v.station ≠ 0 → v.station ≠ 63 → c.data.toNat = v.station.toNat →
    v' = { v with receiver := Receiver.receiving none [] (!good) } ∧ blank = true
  passes : c.p = true → c.s = true → v.station = 0 ∨ v.station = 63 ∨ c.data.toNat ≠ v.station.toNat →
    v' = { v with receiver := .idle } ∧ blank = false
  idle : c.p = true → c.s = false → v.receiver = .idle → v' = v ∧ blank = false
  discarding : c.p = true → c.s = false → v.receiver = .discarding → v' = v ∧ blank = true
  length : ∀ chars damaged, c.p = true → c.s = false → v.receiver = .receiving none chars damaged →
    blank = true ∧ v' = { v with
      receiver := if c.data = 0 then Receiver.idle
        else if 60 < c.data.toNat then Receiver.discarding
        else Receiver.receiving (some c.data.toNat) [] (damaged || !good) }
  middle : ∀ n chars damaged, c.p = true → c.s = false → v.receiver = .receiving (some n) chars damaged →
    chars.length + 1 < n →
    blank = true ∧ v' = { v with receiver := .receiving (some n) (chars ++ [c.data]) (damaged || !good) }
  last : ∀ n chars damaged code params, c.p = true → c.s = false →
    v.receiver = .receiving (some n) chars damaged → n ≤ chars.length + 1 →
    chars ++ [c.data] = code :: params →
    blank = true ∧ v' = if damaged = true ∨ good = false then { v with receiver := .idle }
      else if unsent = true ∨ v.request.isSome = true then { v with receiver := .idle, overrun := true }
      else { v with receiver := .idle, request := some ⟨code, params⟩ }

/-! ### The moving belt, as the statements speak of it -/

/-- The next weighing event finds no new scale sample: SCALE_LOAD is not fresh, or LOST already (R5). -/
def State.noScale (s : State) : Prop :=
  (s.waitingFor .scaleLoad).head? = some .notFresh ∨ (s.waitingFor .scaleLoad).head? = some .lost

/-- The next weighing event finds no new scale sample and a plausible pulse sample `v` (R5, R7), with the table `t`. -/
structure State.Weighs (s : State) (t : WeighTable) (v : Half) : Prop where
  alive : s.pins.porst = false
  table : s.weigher.table = some t
  scale : s.noScale
  pulses : (s.waitingFor .beltPulses).head? = some (.fresh v)
  tracking : s.weigher.tracker = .tracking
  plausible : pulseDiff v s.weigher.pulseRef ≤ min 65535 (t.maxDelta * min 65535 (s.weigher.gap + 1))
  agrees : s.weighAgrees

/-- The travel that such an event forms (R7, R9), in 0.01 mm. -/
def State.travelOf (s : State) (t : WeighTable) (v : Half) : Nat :=
  pulseDiff v s.weigher.pulseRef * t.pulsePitch

/-- The odometer after such an event (R9). -/
def State.odometerAfter (s : State) (t : WeighTable) (v : Half) : Count32 :=
  s.weigher.odometer + BitVec.ofNat 32 (s.travelOf t v)

/-- The belt moves in the next weighing event with no carry, no change of the estimated flag and no calibration
running: only the odometer's advance reaches the transit queue and the plan. -/
structure State.BeltRuns (s : State) (t : WeighTable) (v : Half) : Prop extends s.Weighs t v where
  moves : s.travelOf t v ≠ 0
  carriesNothing : s.weigher.residue + s.weigher.corrected * s.travelOf t v < 1000000
  sameFlag : s.weigher.estimated = (s.weigher.scaleLost || s.weigher.catchUp)
  calibratesNothing : s.weigher.zeroCal.running = false

/-- The oldest of these closed parcels, if there is one, has not travelled the transit distance (R31). -/
def noneDue (t : WeighTable) (odometer : Count32) (closed : List ClosedParcel) : Prop :=
  ∀ c, closed.head? = some c → wrapDiff odometer c.closeOdometer < t.transitDistance * 100

/-- The odometer does not reach the end of a drain that is under way (R77). -/
def State.drainsOn (s : State) (t : WeighTable) (odometer : Count32) : Prop :=
  ∀ c m, s.plan.state = .draining c m →
    wrapDiff odometer m < (t.transitDistance + t.segmentLength) * 100

/-- What a carry does to the plan (R72): a pour whose target is then met stops with TARGET, and PLAN is raised; any other
plan stays as it is. -/
def State.carryStops (s t : State) (odometer : Count32) : Prop :=
  if s.plan.state = .pouring ∧ t.anticipationMet = true then
    t.plan = { s.plan with state := s.stopsWith .target odometer } ∧ t.gate.stopSet.has .plan = true
  else t.plan = s.plan

/-! ### Further agreements that every step keeps -/

/-- SPOUT is present exactly while the spout is not ready (R99). -/
def State.spoutAgrees (s : State) : Prop := s.gate.stopSet.has .spout = !s.spoutReady

/-- HATCH is present exactly while a step is ACTIVE and no active input holds HATCH_OPEN for its hold (R148). -/
def State.hatchAgrees (s : State) : Prop :=
  s.gate.stopSet.has .hatch = s.plan.active.any (fun st => !s.contacts.hatchOpen st.hold)

/-- SWAY is present exactly while the BELT_SWAY input is active (R147). -/
def State.swayAgrees (s : State) : Prop := s.gate.stopSet.has .sway = s.contacts.swayActive

/-- A POURING plan has no stop reason against it but for PLAN, which it clears itself (R71, R74). -/
def State.pourUnopposed (s : State) : Prop := s.plan.state = .pouring → s.gate.stopSet.others.isEmpty = true

/-- The three reasons that the spout and the contacts give agree with them (R99, R147, R148). -/
structure State.ContactReasonsAgree (s : State) : Prop where
  spout : s.spoutAgrees
  hatch : s.hatchAgrees
  sway : s.swayAgrees

/-- The contact table agrees with the latch and the tip contact flag: each role but UNUSED has one input at most (R140),
an active PULL_CORD input has set the latch (R145), and the flag is the state of the TIP_CONTACT input (R101). A sample
taken since the last restart has left its raw data (R139, R142). -/
structure State.ContactsAgree (s : State) : Prop where
  roles : ∀ i j, i ≠ j → (s.contacts.inputs.get i).role = (s.contacts.inputs.get j).role →
    (s.contacts.inputs.get i).role = .unused
  cord : ∀ i, (s.contacts.inputs.get i).role = .pullCord → (s.contacts.inputs.get i).active = true →
    s.contacts.latch = true
  tip : s.spout.tipContact = true ↔
    ∃ i, (s.contacts.inputs.get i).role = .tipContact ∧ (s.contacts.inputs.get i).active = true
  raw : s.contacts.sampleTaken = true → s.contacts.raw ≠ none

/-- The transit queue holds at most 96 parcels, and closed ones only beside an open one (R23). -/
def State.queueFits (s : State) : Prop :=
  s.queue.count ≤ 96 ∧ (s.queue.openParcel = none → s.queue.closed = [])

/-- An axis's counts and gaps lie in their ranges, and its allowed speeds are at most its vmax, 0 without an entry (R92,
R106). -/
def AxisRecord.inBounds (r : AxisRecord) : Prop :=
  r.implausible ≤ 2 ∧ r.recovery ≤ 3 ∧ r.positionGap ≤ 65535 ∧ r.runGap ≤ 65535
    ∧ r.down.speed ≤ r.entry.elim 0 (·.vmax) ∧ r.up.speed ≤ r.entry.elim 0 (·.vmax)

/-- The counters lie in the ranges that their rules give (R6, R10, R62, R92, R106, R116, R155, R166, R167, R169,
R175), and so do the tables that bound them (R1, R113); a disabled zone's exposure counter is 0 (R115, R125). -/
structure State.CountersInRange (s : State) : Prop where
  table : ∀ t, s.weigher.table = some t → t.inRange = true
  pulses : s.weigher.lastDelta ≤ 1000 ∧ s.weigher.gap ≤ 65535
  residue : s.weigher.residue < 1000000
  implausible : s.weigher.implausible ≤ 2
  axes : ∀ a, (s.spout.axis a).inBounds
  riseCounts : ∀ z : ZoneNo, (s.dust.get z).warnCount ≤ 50 ∧ (s.dust.get z).highCount ≤ 50
    ∧ (s.dust.get z).stopCount ≤ 50 ∧ (s.dust.get z).exposure ≤ 65535
  disabled : ∀ z : ZoneNo, (s.dust.get z).record = none → (s.dust.get z).exposure = 0
  zoneRecords : ∀ (z : ZoneNo) (r : ZoneRecord),
    (s.dust.get z).record = some r ∨ (s.dust.get z).pendingRecord = some (some r) → r.inRange z = true
  falls : ∀ z : ZoneNo, (s.dust.get z).fallCount ≤ 50
  purges : ∀ (z : ZoneNo) (n : Nat), (s.dust.get z).purgeTimer = some n → n ≤ 60000
  ages : ∀ (i : SlotNo) (r : Freshness), s.loop.freshnessOf i = some r → r.age ≤ 255
  topUps : ∀ st ∈ s.plan.steps, st.topUps ≤ 3
  billCounts : ∀ (n : BillNo) (l : Lot), (s.bills.records.get n).lot? = some l →
    l.dustStops ≤ 65535 ∧ l.restarts ≤ 255
  proving : s.loop.provingCount ≤ 7
  missed : s.loop.missedCount ≤ 2
  window : s.loop.windowPosition ≤ 199 ∧ s.loop.windowCount ≤ s.loop.windowPosition
  outage : s.loop.outage ≤ 399

/-- The hold table's derived values are those that its rules form (R51, R53, R54, R56, R58). -/
structure State.HoldsAgree (s : State) : Prop where
  heights : ∀ (h : HoldNo) (r : HoldRecord), s.holds.holds.get h = some r →
    r.floor = r.deckLevel - r.static.depth ∧ r.coamingTop = r.deckLevel + r.static.coaming
      ∧ r.fill = (r.volume * 10 + r.static.area - 1) / r.static.area
      ∧ r.surface = max r.floor (min r.coamingTop
          (r.floor + r.fill + (r.offset.getD r.static.heap : Nat)))
  levels : ∀ (v : VesselRecord) (h : HoldNo) (r : HoldRecord), s.holds.vessel = some v →
    s.holds.holds.get h = some r →
    r.deckLevel = deckLevelAt v s.holds.fore s.holds.aft r.reference
  clear : s.holds.clearLevel = s.holds.findClearLevel
  moment : s.holds.moment = s.holds.vessel.map (fun v => v.baseMoment + momentOf s.holds.holds.toList)
  cargo : s.holds.cargo = s.holds.vessel.map (fun _ => cargoOf s.holds.holds.toList)

/-- The tip's accepted TRAVEL and REACH positions lie in the shrunk window of a present hold (R96). -/
def State.tipInside (s : State) (h : HoldNo) : Prop :=
  ∃ v r x y, s.holds.vessel = some v ∧ s.holds.holds.get h = some r
    ∧ s.spout.travel.accepted = some x ∧ s.spout.reach.accepted = some y
    ∧ (r.static.travelMin : Int) + ((v.tipRadius + 9) / 10 : Nat) ≤ x
    ∧ x ≤ (r.static.travelMax : Int) - ((v.tipRadius + 9) / 10 : Nat)
    ∧ (r.static.reachMin : Int) + v.tipRadius ≤ y ∧ y ≤ (r.static.reachMax : Int) - v.tipRadius

/-- The tip lies inside this hold's shrunk window and no earlier one's. -/
def State.tipOver (s : State) (h : HoldNo) : Prop := s.tipInside h ∧ ∀ g < h, ¬ s.tipInside g

/-- A barrier's distance and allowed speed follow its position (R105, R106); `ahead` is the difference in axis
units, absent without an accepted position. -/
def Barrier.Follows (b : Barrier) (a : Axis) (entry : Option AxisEntry) (ahead : Option Int) : Prop :=
  (∀ d, ahead = some d → b.distance = d.toNat * (if a = .travel then 10 else 1))
  ∧ (ahead = Option.none → b.distance = 0)
  ∧ b.speed = entry.elim 0 (fun e => if b.distance ≤ e.margin then 0
      else min e.vmax ((b.distance - e.margin) * e.gain / 16))

/-- The spout's derived state is that which its rules form: the position state (R96), the drop and the band (R98), the
DROP cap (R100) and the barriers with their distances and allowed speeds (R103 to R106). -/
structure State.SpoutDerived (s : State) : Prop where
  unknown : (∃ a, (s.spout.axis a).known = false) → s.spout.position = .unknown
  unplaced : (∀ a, (s.spout.axis a).known = true) → s.holds.clearLevel = none → s.spout.position = .stray
  placed : ∀ level tip, (∀ a, (s.spout.axis a).known = true) → s.holds.clearLevel = some level →
    s.spout.drop.accepted = some tip →
    (level ≤ tip → s.spout.position = .clear)
    ∧ (tip < level → (∀ h, s.tipOver h → s.spout.position = .over h)
      ∧ ((∀ h, ¬ s.tipInside h) → s.spout.position = .stray))
  band : ∀ h r tip, s.spout.position = .over h → s.holds.holds.get h = some r →
    s.spout.drop.accepted = some tip →
    s.spout.dropHeight = some (tip - r.surface)
    ∧ ∃ e : Nat, s.spout.effectiveMax = some e
      ∧ e = max (r.static.minDrop + 100)
          (r.static.maxDrop - max s.spout.reductionTip s.spout.reductionHatch)
      ∧ s.spout.band = some (if tip - r.surface < r.static.minDrop then .belowBand
          else if (e : Int) < tip - r.surface then .aboveBand else .inBand)
  noBand : (∀ h, s.spout.position ≠ .over h) →
    s.spout.dropHeight = none ∧ s.spout.effectiveMax = none ∧ s.spout.band = none
  cap : ∀ (v : VesselRecord) (drop : Int) (e : Nat), s.spout.band = some .aboveBand →
    s.holds.vessel = some v → s.spout.dropHeight = some drop → s.spout.effectiveMax = some e →
    s.gate.dropCap = some (max v.highDropFloor ((16000 - (drop - e) * v.highDropSlope) / 16).toNat)
  noCap : s.spout.band ≠ some .aboveBand → s.gate.dropCap = none
  overClear : s.spout.position = .clear → ∀ a, a ≠ .drop → ∀ e, (s.spout.axis a).entry = some e →
    (s.spout.axis a).down.position = some e.lower ∧ (s.spout.axis a).up.position = some e.upper
  overHold : ∀ h v r, s.spout.position = .over h → s.holds.vessel = some v →
    s.holds.holds.get h = some r →
    (∀ e, s.spout.travel.entry = some e →
      s.spout.travel.down.position
        = some (max e.lower ((r.static.travelMin : Int) + ((v.tipRadius + 9) / 10 : Nat)))
      ∧ s.spout.travel.up.position
        = some (min e.upper ((r.static.travelMax : Int) - ((v.tipRadius + 9) / 10 : Nat))))
    ∧ (∀ e, s.spout.reach.entry = some e →
      s.spout.reach.down.position = some (max e.lower ((r.static.reachMin : Int) + v.tipRadius))
      ∧ s.spout.reach.up.position = some (min e.upper ((r.static.reachMax : Int) - v.tipRadius)))
  astray : s.spout.position = .stray ∨ s.spout.position = .unknown → ∀ a, a ≠ .drop →
    (s.spout.axis a).down.position = (s.spout.axis a).accepted
    ∧ (s.spout.axis a).up.position = (s.spout.axis a).accepted
  dropUp : s.spout.drop.up.position = s.spout.drop.entry.map (·.upper)
  dropHeld : s.spout.tipContact = true ∨ s.holds.clearLevel = none →
    s.spout.drop.down.position = s.spout.drop.accepted
  dropDown : ∀ level e, s.spout.tipContact = false → s.holds.clearLevel = some level →
    s.spout.drop.entry = some e →
    (∀ h r, s.tipOver h → s.holds.holds.get h = some r →
      s.spout.drop.down.position = some (max e.lower (r.surface + r.static.minDrop)))
    ∧ ((∀ h, ¬ s.tipInside h) → s.spout.drop.down.position = some (max e.lower level))
  follows : ∀ a, (s.spout.axis a).down.Follows a (s.spout.axis a).entry
      ((s.spout.axis a).accepted.bind (fun x => (s.spout.axis a).down.position.map (fun b => x - b)))
    ∧ (s.spout.axis a).up.Follows a (s.spout.axis a).entry
      ((s.spout.axis a).accepted.bind (fun x => (s.spout.axis a).up.position.map (fun b => b - x)))

/-- The parcels of the queue, oldest first. -/
def TransitQueue.parcels (q : TransitQueue) : List Parcel :=
  q.closed.map (·.parcel) ++ q.openParcel.toList

/-- The mass that the queue's parcels tagged with a bill hold together (R35). -/
def TransitQueue.massOf (q : TransitQueue) (n : BillNo) : Nat :=
  ((q.parcels.filter (fun p => decide (p.lot = some n))).map (·.mass)).sum

/-- The bills agree with themselves, with the transit queue, with the plan and with the lot tag (R14, R25, R35, R153,
R158). -/
structure State.BillsAgree (s : State) : Prop where
  balanced : ∀ (n : BillNo) (l : Lot), (s.bills.records.get n).lot? = some l → l.balanced
  transit : ∀ n : BillNo, (s.bills.records.get n).inTransit = s.queue.massOf n
  closed : ∀ (n : BillNo) (l : Lot) (c : Count32), s.bills.records.get n = .closed l c → l.inTransit = 0
  planned : ∀ st ∈ s.plan.steps, st.state = .pending ∨ st.state = .active →
    (s.bills.records.get st.bill).isOpen = true
  tagged : ∀ n, s.weigher.tag = some n → ∃ st ∈ s.plan.steps, st.state = .active ∧ st.bill = n
  filled : ∀ p, s.queue.openParcel = some p → s.queue.closeDeferred = false → p.lot = s.weigher.tag

end Sys2Proof.Machine
end

