-- ==== Sys2Proof/Certificates/Slice0/Obligations.lean ====
section
/-! DEFINITION. The statements for the provers, in the order of the spec's chapters, general ones first. A statement
about a command says what `exec` answers to it: the next state whole, or what the next state holds. -/

open Sys2Proof Sys2Proof.Machine

/-! ### Every command -/

/-- One step takes the command at the front of the queue and executes it on the state with the queue's rest; on an
empty queue it takes the first event that waits inside the part, and idles where none waits (log 8). -/
def Obligations.StepTakesTheFrontCommand : Prop :=
  (∀ (c : Instr) (rest : List Instr) (s : State), s.pending = c :: rest →
    step s = exec c { s with pending := rest })
  ∧ ∀ s : State, s.pending = [] →
    step s = match s.waitingCommand with
      | some c => exec c s
      | none => .next s

/-- Every command, and every step, is answered with a next state. A row that names what comes about inside an event
(log 2) is that event taken whole where it comes about in it, and changes nothing where it does not. -/
def Obligations.EveryCommandIsAnswered : Prop :=
  (∀ (c : Instr) (s : State), answersNext (exec c s) = true) ∧ (∀ s : State, answersNext (step s) = true)
  ∧ ∀ (row event : Instr) (o : Occurrence) (s : State), insideEvent row = some (o, event) →
    s.pins.porst = false →
    ∃ t, exec event s = .next t ∧ exec row s = .next (if o ∈ t.came then t else s)

/-- While PORST is asserted the part sends nothing on loop-out and takes nothing (R194), and asserting PORST loses a
pending PART_RESET. That every command but the release of PORST leaves the part as it is, that the line signal still
moves its pin, and that what left on loop-out is emptied, is the model's reading (DEDUCED, log 10). -/
def Obligations.PorstStopsTheTraffic : Prop :=
  (∀ s : State, exec .porstAsserted s = .next { s with
      pins := { s.pins with porst := true }, modes := { s.modes with partResetPending := false },
      loop := { s.loop with loopOut := none }, came := [] })
  ∧ ∀ (c : Instr) (s : State), s.pins.porst = true →
    match c with
    | .porstAsserted => True
    | .powerOn _ _ => True
    | .lineSignalLost => exec c s = .next { s with pins := { s.pins with lineSignal := false } }
    | .lineSignalPresent => exec c s = .next { s with pins := { s.pins with lineSignal := true } }
    | c => exec c s = .next s

/-- What the service unit judges of a request by itself (R183): a wrong number of parameter characters is refused with
BAD_PARAM, a code outside the table with UNKNOWN_REQUEST, and a request that completes while a reply is not fully sent
is discarded for overrun. A request still in the request buffer waits there for the reply's end (log 5). -/
def Obligations.RequestsAreJudgedBeforeTheirBlocks : Prop :=
  (∀ (r : Request) (count : Nat) (s : State), (r.code, count) ∈ parameterCounts → s.pins.porst = false →
    (s.service.reply = none → r.params.length ≠ count →
      exec (requestCommand r) s = .next (s.refused r.code r.params .badParam))
    ∧ (s.service.reply ≠ none →
      exec (requestCommand r) s = .next (if s.service.request = some r then { s with came := [] }
        else { s with service := { s.service with overrun := true }, came := [] })))
  ∧ (∀ (code : Byte) (p : List Byte) (s : State), (∀ count, (code, count) ∉ parameterCounts) →
    s.pins.porst = false → s.service.reply = none →
    exec (.unknownRequest code p) s = .next (s.refused code p .unknownRequest))
  ∧ ∀ (code : Byte) (p : List Byte) (s : State), s.pins.porst = false → s.service.reply ≠ none →
    exec (.requestOverrun code p) s =
      .next { s with service := { s.service with overrun := true }, came := [] }

/-- The reads change nothing and answer with the values that stand, but for READ_LOOP, which draws a free value for
the age of each unmapped binding (log 1). How a field without a value is encoded is the model's choice where the spec
gives none (log 4), and so is that the lower four bits of a lone small field are not read (log 27). That page 1 of
READ_GATE reports the raw CONTACTS data that a LOOP_RESTART has kept (R150) as absent until the next sample (R139) is the
model's reading (DEDUCED, log 40). -/
def Obligations.ReadsAnswerAndChangeNothing : Prop :=
  (∀ (s : State) (c : Byte),
    (s.hears 1 [c] →
      exec (.readWeigh [c]) s = .next (
        if c.toNat / 16 = 0 then s.readOut 0x13 [c] (weighReport s)
        else if c.toNat / 16 = 1 then match s.weigher.table with
          | some t => s.readOut 0x13 [c] (weighTableReport t)
          | none => s.refused 0x13 [c] .notFound
        else s.refused 0x13 [c] .badParam)
      ∧ exec (.readHold [c]) s = .next (
        if 9 < c.toNat / 16 ∨ 1 < c.toNat % 16 then s.refused 0x22 [c] .badParam
        else match numbered 9 (c.toNat / 16) with
          | none => if c.toNat % 16 = 1 then s.readOut 0x22 [c] (deckReport s)
            else match s.holds.vessel with
              | some v => s.readOut 0x22 [c] (.flag true :: vesselReport v)
              | none => s.readOut 0x22 [c] [.small 0, .flag false]
          | some h => match s.holds.holds.get h with
            | some r => s.readOut 0x22 [c] (if c.toNat % 16 = 0 then holdReport r else holdLevels r)
            | none => if c.toNat % 16 = 0 then s.readOut 0x22 [c] [.small (c.toNat / 16), .flag false]
              else s.refused 0x22 [c] .notFound)
      ∧ exec (.readPlan [c]) s = .next (
        if 31 < c.toNat then s.refused 0x38 [c] .badParam
        else s.readOut 0x38 [c] (planReport s c.toNat))
      ∧ exec (.readSpout [c]) s = .next (match c.toNat / 16 with
        | 0 => s.readOut 0x41 [c] (spoutReport s)
        | n + 1 => match axisOfNumber n with
          | none => s.refused 0x41 [c] .badParam
          | some a => match (s.spout.axis a).entry with
            | some e => s.readOut 0x41 [c] (axisEntryReport e)
            | none => s.refused 0x41 [c] .notFound))
    ∧ (s.hears 0 [] → exec (.readTransit []) s = .next (s.readOut 0x18 [] (transitReport s))))
  ∧ ∀ (s : State) (c : Byte),
    (s.hears 1 [c] →
      exec (.readZone [c]) s = .next (match numbered 6 (c.toNat / 16) with
        | none => s.refused 0x53 [c] .badParam
        | some z => if 1 < c.toNat % 16 then s.refused 0x53 [c] .badParam
          else if c.toNat % 16 = 0 then s.readOut 0x53 [c] (zoneReport s z)
          else match (s.dust.get z).record with
            | some r => s.readOut 0x53 [c] (zoneRecordReport r)
            | none => s.refused 0x53 [c] .notFound)
      ∧ exec (.readGate [c]) s = .next (match c.toNat / 16 with
        | 0 => s.readOut 0x60 [c] (gateReport s.gate)
        | 1 => s.readOut 0x60 [c] (contactReport s.contacts)
        | 2 => s.readOut 0x60 [c] ((s.contacts.inputs.toList.drop 8).flatMap inputReport)
        | _ => s.refused 0x60 [c] .badParam)
      ∧ exec (.readBill [c]) s = .next (
        if 12 < c.toNat / 16 ∨ 1 < c.toNat % 16 then s.refused 0x73 [c] .badParam
        else match numbered 12 (c.toNat / 16) with
          | none => if c.toNat % 16 = 1 then s.refused 0x73 [c] .badParam
            else s.readOut 0x73 [c] (billDirectory s.bills)
          | some n => if c.toNat % 16 = 0 then s.readOut 0x73 [c] (billHeader n (s.bills.records.get n))
            else match (s.bills.records.get n).lot? with
              | some l => s.readOut 0x73 [c] (billHoldList n l)
              | none => s.refused 0x73 [c] .notFound)
      ∧ (c.toNat / 16 = 1 → ∃ free : SampleBinding → Nat, (∀ b, free b < 256)
        ∧ exec (.readLoop [c]) s = .next { s with
            freeCount := s.freeCount + 15, came := [],
            service := s.answering s.notices 0x82 [c] .done (sampleBindings.flatMap (fun b =>
              match s.loop.slotOf b with
              | none => [.optNat 1 none, .num 1 (free b), .flag (s.loop.isLost b), .flag false]
              | some i => match s.loop.slots.get i with
                | .sample _ _ r =>
                  [.num 1 i.val, .num 1 r.age, .flag (s.loop.isLost b), .flag r.held.isSome]
                | _ => [])) })
      ∧ (c.toNat / 16 = 2 → ∃ free : CommandBinding → Nat, (∀ b, free b < 256)
        ∧ exec (.readLoop [c]) s = .next { s with
            freeCount := s.freeCount + 4, came := [],
            service := s.answering s.notices 0x82 [c] .done (commandBindings.flatMap (fun b =>
              match s.loop.commandSlotOf b with
              | none => [.optNat 1 none, .num 1 (free b), .optSmall none, .optInt 3 none, .optInt 2 none,
                  .optSmall none]
              | some i => match s.loop.slots.get i with
                | .command _ _ r k =>
                  [.num 1 i.val, .num 1 r.age, .flag k.takenOver, .optInt 3 (r.held.map (·.toInt)),
                   .num 2 k.lastValue.toInt, .flag k.lastWrittenT]
                | _ => [])) })
      ∧ (c.toNat / 16 = 0 → exec (.readLoop [c]) s = .next (s.readOut 0x82 [c] (loopReport s)))
      ∧ (∀ n < 4, c.toNat / 16 = n + 3 → exec (.readLoop [c]) s = .next (s.readOut 0x82 [c]
          (((s.loop.slots.toList.drop (10 * n)).take 10).flatMap slotReport)))
      ∧ (6 < c.toNat / 16 → exec (.readLoop [c]) s = .next (s.refused 0x82 [c] .badParam)))
    ∧ (s.hears 0 [] → exec (.readMode []) s = .next (s.readOut 0xA4 []
        [.small s.modes.mode.number, .small s.modes.lastRestart.number,
         .num 1 s.service.station.toNat, .flag s.modes.partResetPending]))

/-- A number is read back from the characters it is sent in (R196, R199): unsigned where it fits the characters,
signed where it lies in their range of two's complement; and the weigh table, the vessel record, an axis entry, a zone
record and a hold's static fields are read out in the characters they were loaded in (R20, R59, R109, R132, R198). -/
def Obligations.FieldsAreReadBack : Prop :=
  (∀ w : Nat, (∀ v : Int, (charsOf w v).length = w)
    ∧ (∀ v : Nat, v < 256 ^ w → natOfChars (charsOf w v) = v)
    ∧ (∀ v : Int, -(256 ^ w : Int) ≤ 2 * v → 2 * v < 256 ^ w → intOfChars (charsOf w v) = v))
  ∧ (∀ p : List Byte, p.length = 20 → encodeFields (weighTableReport (readWeighTable p)) = p)
  ∧ (∀ p : List Byte, p.length = 47 → encodeFields (vesselReport (readVessel p)) = p)
  ∧ (∀ (c : Byte) (p : List Byte) (a : Axis), p.length = 11 →
      encodeFields (axisEntryReport (readAxisEntry a (c :: p))) = p)
  ∧ (∀ (c : Byte) (p : List Byte), p.length = 18 →
      encodeFields (zoneRecordReport (readZoneRecord (c :: p))) = 0x10 :: p)
  ∧ ∀ (c : Byte) (p : List Byte) (r : HoldRecord), p.length = 26 → r.static = readHoldStatic (c :: p) →
      encodeFields (holdReport r) = 0x10 :: p ++ charsOf 2 r.reference

/-! ### Belt weighing (chapter 1) -/

/-- LOAD_WEIGH (R2): refused by mode, by a running calibration and by the ranges of R1, in that order; accepted, it
replaces the table and recomputes the corrected load from the held raw load, keeps the pulse reference, the last
delta, the odometer, the residue and the totalizer, and is answered DONE. OVERRANGE is cleared, the held raw load
being in range (log 13). -/
def Obligations.LoadWeighReplacesTheTable : Prop :=
  ∀ (s : State) (p : List Byte), s.hears 20 p →
    (s.modes.mode ≠ .setup → exec (.loadWeigh p) s = .next (s.refused 0x10 p .wrongMode))
    ∧ (s.modes.mode = .setup → s.weigher.zeroCal.running = true →
      exec (.loadWeigh p) s = .next (s.refused 0x10 p .busy))
    ∧ (s.modes.mode = .setup → s.weigher.zeroCal.running = false → (readWeighTable p).inRange = false →
      exec (.loadWeigh p) s = .next (s.refused 0x10 p .badParam))
    ∧ (s.modes.mode = .setup → s.weigher.zeroCal.running = false → (readWeighTable p).inRange = true →
      ∃ t, exec (.loadWeigh p) s = .next t
        ∧ t.weigher = { s.weigher with
            table := some (readWeighTable p), overrange := false,
            corrected := (correctedLoad (readWeighTable p) s.weigher.heldRaw).1,
            negDrift := (correctedLoad (readWeighTable p) s.weigher.heldRaw).2 }
        ∧ t.service = s.answering t.notices 0x10 p .done []
        ∧ (if t.weigher.negDrift = true ∧ s.weigher.negDrift = false then s.posted t (.weigh .negDrift)
            else t.notices = s.notices)
        ∧ t = { s with weigher := t.weigher, service := t.service, notices := t.notices, came := [] })

/-- ZERO_SCALE (R16): the refusals in their order, and the acceptance: both sums 0, RUNNING, ZEROING raised, answered
ACCEPTED. -/
def Obligations.ZeroScaleBeginsACalibration : Prop :=
  ∀ s : State, s.hears 0 [] →
    (s.modes.mode = .suspended → exec (.zeroScale []) s = .next (s.refused 0x11 [] .wrongMode))
    ∧ (s.modes.mode ≠ .suspended →
      (s.weigher.table = none → exec (.zeroScale []) s = .next (s.refused 0x11 [] .wrongState))
      ∧ ∀ t, s.weigher.table = some t →
        (s.weigher.zeroCal.running = true → exec (.zeroScale []) s = .next (s.refused 0x11 [] .busy))
        ∧ (s.weigher.zeroCal.running = false →
          (s.weigher.scaleLost = true ∨ s.weigher.tracker = .lost ∨ s.gate.positionLost = true →
            exec (.zeroScale []) s = .next (s.refused 0x11 [] .sensorLost))
          ∧ (s.weigher.scaleLost = false → s.weigher.tracker ≠ .lost → s.gate.positionLost = false →
            (s.gate.position = none ∨ (∃ g, s.gate.position = some g ∧ t.gateClosedLimit < g) →
              exec (.zeroScale []) s = .next (s.refused 0x11 [] .gateOpen))
            ∧ ∀ g, s.gate.position = some g → g ≤ t.gateClosedLimit →
              ∃ u, exec (.zeroScale []) s = .next u
                ∧ u.weigher = { s.weigher with zeroCal := { s.weigher.zeroCal with
                    running := true, loadTravelSum := 0, travelSum := 0 } }
                ∧ u.gate.stopSet.has .zeroing = true
                ∧ u.service = s.answering u.notices 0x11 [] .accepted []
                ∧ (s.plan.state ≠ .pouring → s.plan.state ≠ .interrupted →
                  u = { s with weigher := u.weigher, service := u.service, came := [],
                               gate := { s.gate with stopSet := s.gate.stopSet.add .zeroing } }))))

/-- ABORT_ZERO (R17, R19): it ends a RUNNING calibration with ZERO_ABORTED, whose notice it raises in every plan
state, keeping the zero, the sums and the last proposed zero, clears ZEROING and is answered DONE; with none running
it is refused with WRONG_STATE. -/
def Obligations.AbortZeroEndsTheCalibration : Prop :=
  ∀ s : State, s.hears 0 [] →
    (s.weigher.zeroCal.running = false → exec (.abortZero []) s = .next (s.refused 0x12 [] .wrongState))
    ∧ (s.weigher.zeroCal.running = true → ∃ t, exec (.abortZero []) s = .next t
      ∧ t.weigher = { s.weigher with
          tag := t.weigher.tag,
          zeroCal := { s.weigher.zeroCal with running := false, outcome := .zeroAborted } }
      ∧ t.gate.stopSet.has .zeroing = false
      ∧ t.announces (.weigh .zeroAborted)
      ∧ t.service = s.answering t.notices 0x12 [] .done []
      ∧ (s.plan.state ≠ .interrupted → s.posted t (.weigh .zeroAborted)
        ∧ t = { s with weigher := t.weigher, service := t.service, notices := t.notices, came := [],
                       gate := { s.gate with stopSet := s.gate.stopSet.remove .zeroing } }))

/-- The scale part of a weighing event (R4, R5), with no new pulse sample; beside a fresh one it is stated in
TravelFormsMass. A fresh sample is saturated, corrected by zero, span and deadband, and sets OVERRANGE and NEG_DRIFT
anew; a returned one does so too and ends the loss; the loss itself keeps the held values, raises WEIGH and aborts a
calibration. -/
def Obligations.ScaleSampleIsCorrected : Prop :=
  ∀ (s : State) (tab : WeighTable) (x : Half) (h : Handed),
    s.pins.porst = false → s.weigher.table = some tab → s.weighAgrees →
    (s.waitingFor .scaleLoad).head? = some h →
    (s.waitingFor .beltPulses).head? = some .notFresh ∨ (s.waitingFor .beltPulses).head? = some .lost →
    (h.value = some x → ∃ t, exec .weighingEvent s = .next t
      ∧ t.weigher.heldRaw = max (-2000) (min 20000 x.toInt)
      ∧ t.weigher.overrange = decide (x.toInt < -2000 ∨ 20000 < x.toInt)
      ∧ (∀ r : Int, r = divNearest ((t.weigher.heldRaw - tab.zero) * tab.span) 32768 →
        (t.weigher.corrected : Int) = (if r ≤ tab.deadband then 0 else r)
        ∧ t.weigher.negDrift = decide (r < -(tab.deadband : Int)))
      ∧ t.weigher.scaleLost = (match h with | .returned _ => false | _ => s.weigher.scaleLost)
      ∧ t.weigher = { s.weigher with
          heldRaw := t.weigher.heldRaw, overrange := t.weigher.overrange, tag := t.weigher.tag,
          corrected := t.weigher.corrected, negDrift := t.weigher.negDrift,
          scaleLost := t.weigher.scaleLost, gap := min 65535 (s.weigher.gap + 1) }
      ∧ t.weighAgrees ∧ s.keepsRest t
      ∧ (h = .fresh x → t = { s with
          weigher := t.weigher, notices := t.notices, came := [],
          loop := ((s.taken .scaleLoad).taken .beltPulses).loop })
      ∧ (h = .fresh x → t.weigher.overrange = s.weigher.overrange → t.weigher.negDrift = s.weigher.negDrift →
        t.notices = s.notices))
    ∧ (h = .newlyLost → ∃ t, exec .weighingEvent s = .next t
      ∧ t.weigher = { s.weigher with
          scaleLost := true, gap := min 65535 (s.weigher.gap + 1), zeroCal := t.weigher.zeroCal }
      ∧ t.gate.stopSet.has .weigh = true
      ∧ t.weigher.zeroCal = (if s.weigher.zeroCal.running = true
          then { s.weigher.zeroCal with running := false, outcome := .zeroAborted } else s.weigher.zeroCal)
      ∧ (s.weigher.zeroCal.running = true → t.gate.stopSet.has .zeroing = false) ∧ s.keepsRest t)

/-- A weighing event that forms travel (R7, R9, R10, R11, R13, R18): the tracker takes the sample as its reference, the
odometer and the totalizer advance by the travel and the carry, the residue keeps the remainder, the estimated flag
says whether the scale is LOST or the travel is the catch-up travel, and a RUNNING calibration that does not complete
adds the period's terms to its sums. A carry goes to the open parcel `q` as it finds it (R24, R25, R27 to R29): a new
one from the odometer before the advance, one made by a change of the estimated flag at the odometer after it (log 14),
or the one that stands, and to the bill or the unassigned account that its lot names (R12). In POURING it makes the
anticipation test (R72), which stops the pour with TARGET, the drain starting at once, from the odometer after the
advance (log 14), where the gate shows closed (R76). In the ordinary period both bindings have a sample: whatever
SCALE_LOAD is handed as, the travel is weighed against the load that the scale part has left, and the loss or return of
the scale in that period is in the estimated flag, in WEIGH and in the calibration (R3 to R5, R13, R15, R18, R19). -/
def Obligations.TravelFormsMass : Prop :=
  (∀ (s : State) (tab : WeighTable) (v : Half), s.Weighs tab v →
    ∃ t, exec .weighingEvent s = .next t
      ∧ t.weigher.pulseRef = v ∧ t.weigher.gap = 0 ∧ t.weigher.implausible = 0
      ∧ t.weigher.lastDelta = pulseDiff v s.weigher.pulseRef / min 65535 (s.weigher.gap + 1)
      ∧ t.weigher.tracker = .tracking ∧ t.weigher.catchUp = false
      ∧ t.weigher.odometer = s.odometerAfter tab v
      ∧ t.weigher.residue =
          (s.weigher.residue + s.weigher.corrected * s.travelOf tab v) % 1000000
      ∧ t.bills.totalizer = s.bills.totalizer + BitVec.ofNat 32
          ((s.weigher.residue + s.weigher.corrected * s.travelOf tab v) / 1000000)
      ∧ t.weigher.estimated = (s.weigher.scaleLost || s.weigher.catchUp)
      ∧ t.weigher.heldRaw = s.weigher.heldRaw ∧ t.weigher.scaleLost = s.weigher.scaleLost
      ∧ (s.weigher.zeroCal.running = false →
        t.weigher.zeroCal = s.weigher.zeroCal ∧ t.weigher.table = s.weigher.table
          ∧ t.weigher.corrected = s.weigher.corrected)
      ∧ (s.weigher.zeroCal.running = true →
        s.weigher.zeroCal.travelSum + s.travelOf tab v < tab.beltLength * 100 →
        t.weigher.table = s.weigher.table ∧ t.weigher.zeroCal = { s.weigher.zeroCal with
          loadTravelSum := s.weigher.zeroCal.loadTravelSum + s.weigher.heldRaw * s.travelOf tab v,
          travelSum := s.weigher.zeroCal.travelSum + s.travelOf tab v })
      ∧ t.loop = ((s.taken .scaleLoad).taken .beltPulses).loop ∧ s.keepsRest t
      ∧ (s.weigher.zeroCal.running = false → s.drainsOn tab (s.odometerAfter tab v) →
        0 < tab.transitDistance → 0 < tab.segmentLength →
        noneDue tab (s.odometerAfter tab v) s.queue.closed →
        1000000 ≤ s.weigher.residue + s.weigher.corrected * s.travelOf tab v →
        ∃ (q : Parcel) (k : Nat) (flag : Bool),
          k = (s.weigher.residue + s.weigher.corrected * s.travelOf tab v) / 1000000
          ∧ flag = (s.weigher.scaleLost || s.weigher.catchUp)
          ∧ (s.queue.openParcel = none → q = ⟨s.weigher.tag, flag, 0, s.weigher.odometer⟩)
          ∧ (∀ p, s.queue.openParcel = some p →
            (flag = s.weigher.estimated ∨ (p.mass = 0 ∧ p.openOdometer = s.odometerAfter tab v) →
              q = if s.queue.closeDeferred = true then
                  (if p.mass = 0 then { p with lot := s.weigher.tag, estimated := flag }
                    else { p with estimated := p.estimated || flag })
                else if flag = s.weigher.estimated then p else { p with estimated := flag })
            ∧ (flag ≠ s.weigher.estimated → p.mass ≠ 0 ∨ p.openOdometer ≠ s.odometerAfter tab v →
              (s.queue.count < 96 → q = ⟨s.weigher.tag, flag, 0, s.odometerAfter tab v⟩
                ∧ ⟨p, s.odometerAfter tab v⟩ ∈ t.queue.closed)
              ∧ (96 ≤ s.queue.count → q = if p.mass = 0
                then { p with lot := s.weigher.tag, estimated := flag }
                else { p with estimated := p.estimated || flag })))
          ∧ { q with mass := q.mass + k } ∈ t.queue.parcels
          ∧ (wrapDiff (s.odometerAfter tab v) q.openOdometer < tab.segmentLength * 100 →
            s.queue.closeDeferred = false ∨ 96 ≤ s.queue.count →
            t.queue.openParcel = some { q with mass := q.mass + k })
          ∧ (∀ n l, q.lot = some n → s.bills.records.get n = .opened l →
            t.bills.records.get n
              = .opened { l with weighed := l.weighed + k, inTransit := l.inTransit + k })
          ∧ (∀ n, q.lot ≠ some n → t.bills.records.get n = s.bills.records.get n)
          ∧ t.weigher.account = (if q.lot = none then { s.weigher.account with
              weighed := s.weigher.account.weighed + BitVec.ofNat 32 k,
              inTransit := s.weigher.account.inTransit + BitVec.ofNat 32 k } else s.weigher.account)
          ∧ s.carryStops t (s.odometerAfter tab v)))
  ∧ ∀ (s : State) (tab : WeighTable) (v : Half) (h b : Handed),
    s.pins.porst = false → s.weigher.table = some tab → s.weighAgrees → s.weigher.tracker = .tracking →
    (s.waitingFor .scaleLoad).head? = some h → (s.waitingFor .beltPulses).head? = some b → b.value = some v →
    pulseDiff v s.weigher.pulseRef ≤ min 65535 (tab.maxDelta * min 65535 (s.weigher.gap + 1)) →
    ∃ (t : State) (load : Nat), exec .weighingEvent s = .next t
      ∧ (∀ x, h.value = some x → t.weigher.heldRaw = max (-2000) (min 20000 x.toInt)
        ∧ t.weigher.overrange = decide (x.toInt < -2000 ∨ 20000 < x.toInt)
        ∧ ∀ r : Int, r = divNearest ((t.weigher.heldRaw - tab.zero) * tab.span) 32768 →
          (load : Int) = (if r ≤ tab.deadband then 0 else r)
          ∧ (s.weigher.zeroCal.running = false → t.weigher.negDrift = decide (r < -(tab.deadband : Int))))
      ∧ (h.value = none → t.weigher.heldRaw = s.weigher.heldRaw ∧ t.weigher.overrange = s.weigher.overrange
        ∧ load = s.weigher.corrected)
      ∧ t.weigher.scaleLost = (match h with
        | .newlyLost => true
        | .returned _ => false
        | _ => s.weigher.scaleLost)
      ∧ t.weigher.estimated = (t.weigher.scaleLost || s.weigher.catchUp)
      ∧ t.gate.stopSet.has .weigh = t.weigher.scaleLost
      ∧ t.weigher.tracker = .tracking ∧ t.weigher.pulseRef = v ∧ t.weigher.gap = 0
      ∧ t.weigher.implausible = 0 ∧ t.weigher.catchUp = false
      ∧ t.weigher.lastDelta = pulseDiff v s.weigher.pulseRef / min 65535 (s.weigher.gap + 1)
      ∧ t.weigher.odometer = s.odometerAfter tab v
      ∧ t.weigher.residue = (s.weigher.residue + load * s.travelOf tab v) % 1000000
      ∧ t.bills.totalizer = s.bills.totalizer
          + BitVec.ofNat 32 ((s.weigher.residue + load * s.travelOf tab v) / 1000000)
      ∧ (s.weigher.zeroCal.running = false → t.weigher.corrected = load
        ∧ t.weigher.table = s.weigher.table ∧ t.weigher.zeroCal = s.weigher.zeroCal)
      ∧ (s.weigher.zeroCal.running = true →
        (h = .newlyLost → t.weigher.corrected = load ∧ t.weigher.table = s.weigher.table
          ∧ t.weigher.zeroCal = { s.weigher.zeroCal with running := false, outcome := .zeroAborted })
        ∧ (h ≠ .newlyLost →
          t.weigher.zeroCal.travelSum = s.weigher.zeroCal.travelSum + s.travelOf tab v
          ∧ t.weigher.zeroCal.loadTravelSum
            = s.weigher.zeroCal.loadTravelSum + t.weigher.heldRaw * s.travelOf tab v
          ∧ t.weigher.zeroCal.running = decide (t.weigher.zeroCal.travelSum < tab.beltLength * 100)
          ∧ (t.weigher.zeroCal.running = true →
            t.weigher.corrected = load ∧ t.weigher.table = s.weigher.table)
          ∧ (t.weigher.zeroCal.running = false → t.weigher.zeroCal.proposed
            = some (divNearest t.weigher.zeroCal.loadTravelSum t.weigher.zeroCal.travelSum))))
      ∧ (h ≠ .newlyLost → s.plan.state = .pouring → 0 < tab.transitDistance →
        noneDue tab (s.odometerAfter tab v) s.queue.closed →
        1000000 ≤ s.weigher.residue + load * s.travelOf tab v → s.carryStops t (s.odometerAfter tab v))
      ∧ t.loop = ((s.taken .scaleLoad).taken .beltPulses).loop ∧ s.keepsRest t

/-- The pulse tracker's arming, loss and re-arming (R6 to R8). The first sample of an UNARMED tracker is its reference
and forms no travel, the gap then being 0 (DEDUCED, log 15). The third implausible sample in a row forms no travel,
takes the tracker to LOST, raises WEIGH and ends a calibration; earlier ones take substitute travel. The first sample
after LOST re-arms the tracker with the catch-up flag set and forms no travel. The loss of BELT_PULSES by its binding
leads to LOST from every state: that it raises PULSES_LOST again where the tracker is LOST already is the model's
reading (DEDUCED, log 16). While the weigh table is not loaded no sample is used (R1): only the losses and returns of
the two bindings are taken, a returned BELT_PULSES giving an UNARMED tracker, and the pulse gap grows (DEDUCED, log
15). That the implausible count stays as it is at the binding's loss, at the re-arming and without a table is the
model's choice (DESIGN CHOICE, log 34). -/
def Obligations.ImplausiblePulsesAreLostAndRearmed : Prop :=
  (∀ (s : State) (tab : WeighTable) (v : Half) (h : Handed),
    s.pins.porst = false → s.weigher.table = some tab → s.weighAgrees → s.noScale →
    (s.waitingFor .beltPulses).head? = some h → h.value = some v →
    (s.weigher.tracker = .unarmed → ∃ t, exec .weighingEvent s = .next t
      ∧ t.weigher = { s.weigher with tracker := .tracking, pulseRef := v, gap := 0 }
      ∧ t = { s with
          weigher := t.weigher, came := [], loop := ((s.taken .scaleLoad).taken .beltPulses).loop })
    ∧ (s.weigher.tracker = .tracking →
      min 65535 (tab.maxDelta * min 65535 (s.weigher.gap + 1)) < pulseDiff v s.weigher.pulseRef →
      (s.weigher.implausible = 2 → ∃ t, exec .pulsesImplausibleLost s = .next t
        ∧ t.weigher = { s.weigher with
            tracker := .lost, implausible := 0, pulseRef := v, gap := 0, zeroCal := t.weigher.zeroCal }
        ∧ t.weigher.zeroCal = (if s.weigher.zeroCal.running = true
            then { s.weigher.zeroCal with running := false, outcome := .zeroAborted } else s.weigher.zeroCal)
        ∧ t.gate.stopSet.has .weigh = true ∧ t.queue = s.queue
        ∧ t.bills.totalizer = s.bills.totalizer ∧ s.keepsRest t)
      ∧ (s.weigher.implausible < 2 → ∃ t, exec .weighingEvent s = .next t
        ∧ t.weigher.tracker = .tracking ∧ t.weigher.implausible = s.weigher.implausible + 1
        ∧ t.weigher.pulseRef = v ∧ t.weigher.gap = 0 ∧ t.weigher.lastDelta = s.weigher.lastDelta
        ∧ t.weigher.catchUp = s.weigher.catchUp
        ∧ t.weigher.odometer = s.weigher.odometer + BitVec.ofNat 32
            (min (min 65535 (tab.maxDelta * min 65535 (s.weigher.gap + 1)))
              (s.weigher.lastDelta * min 65535 (s.weigher.gap + 1)) * tab.pulsePitch)
        ∧ s.keepsRest t))
    ∧ (s.weigher.tracker = .lost → ∃ t, exec .pulseRearm s = .next t
      ∧ t.weigher = { s.weigher with
          tracker := .tracking, pulseRef := v, gap := 0, catchUp := true, tag := t.weigher.tag }
      ∧ t.gate.stopSet.has .weigh = s.weigher.scaleLost
      ∧ (s.plan.state ≠ .interrupted ∨ s.queue.count < 96 → t.announces (.weigh .pulsesReturned))
      ∧ t.bills.totalizer = s.bills.totalizer ∧ s.keepsRest t))
  ∧ (∀ s : State, s.pins.porst = false → s.weighAgrees → s.noScale →
    (s.waitingFor .beltPulses).head? = some .newlyLost →
    ∃ t, exec .weighingEvent s = .next t
      ∧ t.weigher = { s.weigher with
          tracker := .lost, gap := min 65535 (s.weigher.gap + 1), zeroCal := t.weigher.zeroCal }
      ∧ t.weigher.zeroCal = (if s.weigher.zeroCal.running = true
          then { s.weigher.zeroCal with running := false, outcome := .zeroAborted } else s.weigher.zeroCal)
      ∧ t.gate.stopSet.has .weigh = true ∧ t.queue = s.queue
      ∧ (if s.weigher.zeroCal.running = true then t.announces (.weigh .zeroAborted)
        else t.announces (.weigh .pulsesLost))
      ∧ t.bills.totalizer = s.bills.totalizer ∧ s.keepsRest t)
  ∧ ∀ (s : State) (a b : Handed), s.pins.porst = false → s.weigher.table = none →
    (s.waitingFor .scaleLoad).head? = some a → (s.waitingFor .beltPulses).head? = some b →
    ∃ t, exec .weighingEvent s = .next t
      ∧ t.weigher = { s.weigher with
          scaleLost := (match a with
            | .newlyLost => true
            | .returned _ => false
            | _ => s.weigher.scaleLost)
          tracker := (match b with
            | .newlyLost => .lost
            | .returned _ => .unarmed
            | _ => s.weigher.tracker)
          gap := min 65535 (s.weigher.gap + 1), zeroCal := t.weigher.zeroCal, tag := t.weigher.tag }
      ∧ t.weigher.zeroCal = (if s.weigher.zeroCal.running = true ∧ (a = .newlyLost ∨ b = .newlyLost)
          then { s.weigher.zeroCal with running := false, outcome := .zeroAborted } else s.weigher.zeroCal)
      ∧ t.weighAgrees ∧ t.bills.totalizer = s.bills.totalizer
      ∧ t.loop = ((s.taken .scaleLoad).taken .beltPulses).loop ∧ s.keepsRest t

/-- A zero calibration completes in the weighing event whose travel brings the sum to the belt length (R18): the
proposed zero is the quotient of the sums; within the zero limit and the range it replaces the zero, and the corrected
load is recomputed with it; otherwise the zero is kept. -/
def Obligations.ZeroCalibrationCompletes : Prop :=
  ∀ (s : State) (tab : WeighTable) (v : Half), s.Weighs tab v → s.weigher.zeroCal.running = true →
    tab.beltLength * 100 ≤ s.weigher.zeroCal.travelSum + s.travelOf tab v →
    ∃ t proposed, exec .zeroComplete s = .next t
      ∧ proposed = divNearest (s.weigher.zeroCal.loadTravelSum + s.weigher.heldRaw * s.travelOf tab v)
          (s.weigher.zeroCal.travelSum + s.travelOf tab v)
      ∧ t.weigher.zeroCal.running = false ∧ t.weigher.zeroCal.proposed = some proposed
      ∧ t.gate.stopSet.has .zeroing = false
      ∧ (if (proposed - tab.zero).natAbs ≤ tab.zeroLimit ∧ -2000 ≤ proposed ∧ proposed ≤ 2000 then
          t.weigher.zeroCal.outcome = .zeroDone
          ∧ t.weigher.table = some { tab with zero := proposed }
          ∧ (t.weigher.corrected, t.weigher.negDrift)
            = correctedLoad { tab with zero := proposed } s.weigher.heldRaw
        else
          t.weigher.zeroCal.outcome = .zeroRejected ∧ t.weigher.table = some tab
          ∧ t.weigher.corrected = s.weigher.corrected ∧ t.weigher.negDrift = s.weigher.negDrift)
      ∧ t.weigher.odometer = s.odometerAfter tab v

/-! ### The transit queue and crediting (chapter 2) -/

/-- The close of a parcel (R26, R30), with the belt running, in every plan state, but for a drain that completes. Where
the open parcel has run for a segment, the queue has room and no older parcel is due, it closes at the odometer after
the advance, and a new open one takes its tag and flag. Where a close stands deferred, the due discharge of an empty
parcel makes room, and the new open parcel takes the weigher's tag and flag. In a full queue the close is deferred
(R29): the flag is set, and QUEUE_FULL is raised only if it was clear. A change of the estimated flag (R28), at the
odometer after the advance (log 14), and a change of the lot tag (R27), here by SKIP_STEP outside LOADING, change an
open parcel that has covered and holds nothing, close another, or are deferred. That a change of the estimated flag
that is deferred marks the open parcel at once, its flag becoming the one it had or the new one, is the model's reading
(DEDUCED, log 6). -/
def Obligations.OpenParcelCloses : Prop :=
  (∀ (s : State) (tab : WeighTable) (v : Half) (p : Parcel), s.BeltRuns tab v →
    s.drainsOn tab (s.odometerAfter tab v) → s.queue.openParcel = some p →
    (s.queue.closeDeferred = false → noneDue tab (s.odometerAfter tab v) s.queue.closed →
      s.queue.count < 96 →
      tab.segmentLength * 100 ≤ wrapDiff (s.odometerAfter tab v) p.openOdometer →
      ∃ t, exec .segmentClose s = .next t
        ∧ t.queue = ⟨s.queue.closed ++ [⟨p, s.odometerAfter tab v⟩],
            some ⟨p.lot, p.estimated, 0, s.odometerAfter tab v⟩, false⟩
        ∧ t.weigher.odometer = s.odometerAfter tab v
        ∧ t = { s with weigher := t.weigher, queue := t.queue, came := [.segmentClose],
                       loop := ((s.taken .scaleLoad).taken .beltPulses).loop })
    ∧ (noneDue tab (s.odometerAfter tab v) s.queue.closed → 96 ≤ s.queue.count →
      tab.segmentLength * 100 ≤ wrapDiff (s.odometerAfter tab v) p.openOdometer →
      ∃ t, exec .segmentClose s = .next t
        ∧ t.queue = { s.queue with closeDeferred := true }
        ∧ (if s.queue.closeDeferred = true then t.notices = s.notices
          else s.posted t (.weigh .queueFull))
        ∧ t.weigher.odometer = s.odometerAfter tab v
        ∧ t = { s with weigher := t.weigher, queue := t.queue, notices := t.notices,
                       came := [.segmentClose], loop := ((s.taken .scaleLoad).taken .beltPulses).loop })
    ∧ ∀ c rest, s.queue.closeDeferred = true → s.queue.closed = c :: rest → s.queue.count ≤ 96 →
      c.parcel.mass = 0 → 0 < tab.segmentLength →
      tab.transitDistance * 100 ≤ wrapDiff (s.odometerAfter tab v) c.closeOdometer →
      noneDue tab (s.odometerAfter tab v) rest →
      ∃ t, exec .deferredClose s = .next t
        ∧ t.queue = ⟨rest ++ [⟨p, s.odometerAfter tab v⟩],
            some ⟨s.weigher.tag, s.weigher.estimated, 0, s.odometerAfter tab v⟩, false⟩
        ∧ t.weigher.odometer = s.odometerAfter tab v
        ∧ t = { s with weigher := t.weigher, queue := t.queue, came := [.deferredClose, .parcelDischarge],
                       loop := ((s.taken .scaleLoad).taken .beltPulses).loop })
  ∧ (∀ (s : State) (tab : WeighTable) (v : Half) (p : Parcel) (flag : Bool), s.Weighs tab v →
    s.weigher.residue + s.weigher.corrected * s.travelOf tab v < 1000000 →
    s.weigher.zeroCal.running = false → s.drainsOn tab (s.odometerAfter tab v) →
    0 < tab.transitDistance → 0 < tab.segmentLength →
    noneDue tab (s.odometerAfter tab v) s.queue.closed → s.queue.openParcel = some p →
    s.queue.closeDeferred = false → flag = (s.weigher.scaleLost || s.weigher.catchUp) →
    flag ≠ s.weigher.estimated →
    ∃ t, exec .weighingEvent s = .next t
      ∧ (p.mass = 0 → p.openOdometer = s.odometerAfter tab v →
        t.queue = { s.queue with openParcel := some { p with estimated := flag } }
          ∧ t.notices = s.notices)
      ∧ (p.mass ≠ 0 ∨ p.openOdometer ≠ s.odometerAfter tab v →
        (s.queue.count < 96 → t.queue = ⟨s.queue.closed ++ [⟨p, s.odometerAfter tab v⟩],
            some ⟨s.weigher.tag, flag, 0, s.odometerAfter tab v⟩, false⟩ ∧ t.notices = s.notices)
        ∧ (96 ≤ s.queue.count → t.queue = ⟨s.queue.closed,
            some { p with estimated := p.estimated || flag }, true⟩ ∧ s.posted t (.weigh .queueFull))))
  ∧ ∀ (s : State) (c : Byte) (st : Step) (p : Parcel), s.hears 1 [c] → s.modes.mode ≠ .loading →
    s.plan.steps[c.toNat]? = some st → st.state = .active →
    s.plan.state = .waitSpout ∨ s.plan.state = .waitProceed ∨ (∃ r, s.plan.state = .blocked r) →
    s.weigher.tag ≠ none → s.queue.openParcel = some p →
    ∃ t, exec (.skipStep [c]) s = .next t ∧ t.weigher.tag = none
      ∧ (p.mass = 0 → p.openOdometer = s.weigher.odometer →
        t.queue = { s.queue with openParcel := some { p with lot := none } })
      ∧ (p.mass ≠ 0 ∨ p.openOdometer ≠ s.weigher.odometer →
        (s.queue.count < 96 → t.queue = { s.queue with
          closed := s.queue.closed ++ [⟨p, s.weigher.odometer⟩],
          openParcel := some ⟨none, s.weigher.estimated, 0, s.weigher.odometer⟩ })
        ∧ (96 ≤ s.queue.count → t.queue = { s.queue with closeDeferred := true }
          ∧ (s.queue.closeDeferred = false → t.announces (.weigh .queueFull))))

/-- The discharge of one due parcel of mass above 0 (R31, R33 to R37). The receiving hold takes the mass and its
litres, rounded up and saturated, and no other hold changes; the bill takes the mass from in-transit and enters it in
exactly one of unresolved, spill and the hold entry, or the unassigned account takes it; the active step, where the
parcel carries its bill into its hold, is credited. The totalizer does not move. A pour then stops where the
anticipation test is met (R72), and a pour or an interruption where the trim limits are left or the cargo limit is
reached (R73); its drain mark, where the gate shows closed, is the odometer after the advance (log 14). In STOPPING, and
in a drain that does not complete, the state and its cause stay (R76, R77), and so does a plan that waits for PROCEED,
is BLOCKED or is IDLE. -/
def Obligations.DischargedParcelIsCredited : Prop :=
  ∀ (s : State) (tab : WeighTable) (v : Half) (c : ClosedParcel) (rest : List ClosedParcel),
    s.BeltRuns tab v → s.drainsOn tab (s.odometerAfter tab v) → 0 < tab.segmentLength →
    s.queue.closed = c :: rest → 0 < c.parcel.mass →
    tab.transitDistance * 100 ≤ wrapDiff (s.odometerAfter tab v) c.closeOdometer →
    noneDue tab (s.odometerAfter tab v) rest →
    ∃ t, exec .parcelDischarge s = .next t
      ∧ (∀ h, s.destination ≠ some h → t.holds.holds.get h = s.holds.holds.get h)
      ∧ (∀ h r, s.destination = some h → s.holds.holds.get h = some r →
        t.holds.cargo = some (cargoOf t.holds.holds.toList)
        ∧ ∃ r', t.holds.holds.get h = some r' ∧ r'.static = r.static ∧ r'.offset = r.offset
          ∧ r'.credited = min 4294967295 (r.credited + c.parcel.mass)
          ∧ r'.volume = min 4294967295 (r.volume
              + (c.parcel.mass * 1000 + s.densityOf c.parcel.lot - 1) / s.densityOf c.parcel.lot))
      ∧ (∀ n l, c.parcel.lot = some n → s.bills.records.get n = .opened l →
        t.weigher.account = s.weigher.account
        ∧ ∃ l', t.bills.records.get n = .opened l' ∧ l'.weighed = l.weighed
          ∧ l'.inTransit = l.inTransit - c.parcel.mass
          ∧ (if c.parcel.estimated = true then
              l'.unresolved = l.unresolved + c.parcel.mass ∧ l'.spill = l.spill ∧ l'.holds = l.holds
            else match s.destination with
              | none =>
                l'.spill = l.spill + c.parcel.mass ∧ l'.unresolved = l.unresolved ∧ l'.holds = l.holds
              | some h => l'.holds = creditEntry h c.parcel.mass l.holds
                ∧ l'.unresolved = l.unresolved ∧ l'.spill = l.spill))
      ∧ (c.parcel.lot = none → t.weigher.account = { s.weigher.account with
          inTransit := s.weigher.account.inTransit - BitVec.ofNat 32 c.parcel.mass,
          spill := if s.destination = none then s.weigher.account.spill + BitVec.ofNat 32 c.parcel.mass
            else s.weigher.account.spill })
      ∧ (∀ st, s.plan.active = some st → ∃ st', t.plan.active = some st' ∧ st'.bill = st.bill
        ∧ st'.credited = if c.parcel.lot = some st.bill ∧ s.destination = some st.hold
            then min 4294967295 (st.credited + c.parcel.mass) else st.credited)
      ∧ t.bills.totalizer = s.bills.totalizer ∧ t.weigher.odometer = s.odometerAfter tab v
      ∧ (s.plan.state = .pouring → t.anticipationMet = true → t.gate.stopSet.has .spout = false →
        t.plan.state = s.stopsWith .target (s.odometerAfter tab v))
      ∧ (s.plan.state ≠ .pouring → s.plan.state ≠ .interrupted → s.plan.state ≠ .waitSpout →
        t.plan.state = s.plan.state)
      ∧ (∀ r m k, t.holds.vessel = some r → t.holds.moment = some m → t.holds.cargo = some k →
        (s.plan.state = .pouring ∧ t.anticipationMet = false)
          ∨ (s.plan.state = .interrupted ∧ s.gate.stopSet.has .spout = false) →
        (m < r.aftLimit ∨ r.forwardLimit < m →
          t.plan.state = s.stopsWith .trim (s.odometerAfter tab v))
        ∧ (r.aftLimit ≤ m → m ≤ r.forwardLimit → r.cargoLimit ≤ k →
          t.plan.state = s.stopsWith .cargo (s.odometerAfter tab v)))
      ∧ s.keepsRest t

/-! ### The holds and the vessel record (chapter 3), and the axis entries (R91) -/

/-- LOAD_VESSEL (R44): refused outside SETUP and by the ranges of R43; accepted, the record is replaced, every present
hold keeps what it holds and takes the deck level that the new record gives, and the moment, the cargo aboard and the
spout's derived state (R97) are formed anew. -/
def Obligations.LoadVesselReplacesTheRecord : Prop :=
  ∀ (s : State) (p : List Byte), s.hears 47 p →
    (s.modes.mode ≠ .setup → exec (.loadVessel p) s = .next (s.refused 0x20 p .wrongMode))
    ∧ (s.modes.mode = .setup → (readVessel p).inRange = false →
      exec (.loadVessel p) s = .next (s.refused 0x20 p .badParam))
    ∧ (s.modes.mode = .setup → (readVessel p).inRange = true → ∃ t, exec (.loadVessel p) s = .next t
      ∧ t.holds.vessel = some (readVessel p)
      ∧ (∀ h r, s.holds.holds.get h = some r → ∃ r', t.holds.holds.get h = some r'
        ∧ r' = { r with deckLevel := deckLevelAt (readVessel p) s.holds.fore s.holds.aft r.reference,
                        floor := r'.floor, coamingTop := r'.coamingTop, fill := r'.fill,
                        surface := r'.surface }
        ∧ r'.floor = r'.deckLevel - r.static.depth)
      ∧ (∀ h, s.holds.holds.get h = none → t.holds.holds.get h = none)
      ∧ t.holds.clearLevel = t.holds.findClearLevel
      ∧ t.holds.moment = some ((readVessel p).baseMoment + momentOf t.holds.holds.toList)
      ∧ t.holds.cargo = some (cargoOf t.holds.holds.toList)
      ∧ t.service = s.answering t.notices 0x20 p .done [] ∧ t.loop = s.loop ∧ s.keepsRest t
      ∧ t.SpoutDerived ∧ s.onlySpoutFollows t)

/-- LOAD_HOLD (R46, R47): refused outside SETUP, by the number and the flag, without a vessel record, by the ranges of
R45 and by a window that overlaps another's; an absent mark is refused while a PENDING step names the hold. Accepted,
the hold is present with nothing credited, its volume the litres of its preload, no measured offset, its reference
position the middle of its window; or it is discarded. The clear level, the moment, the cargo aboard and the spout's
derived state (R97) follow. -/
def Obligations.LoadHoldMakesAHold : Prop :=
  ∀ (s : State) (c : Byte) (q : List Byte), s.hears 27 (c :: q) →
    (s.modes.mode ≠ .setup → exec (.loadHold (c :: q)) s = .next (s.refused 0x21 (c :: q) .wrongMode))
    ∧ (s.modes.mode = .setup →
      (c.toNat / 16 = 0 ∨ 9 < c.toNat / 16 ∨ 1 < c.toNat % 16 →
        exec (.loadHold (c :: q)) s = .next (s.refused 0x21 (c :: q) .badParam))
      ∧ ∀ h : HoldNo, c.toNat / 16 = h.val + 1 →
        (c.toNat % 16 = 1 → s.holds.vessel = none →
          exec (.loadHold (c :: q)) s = .next (s.refused 0x21 (c :: q) .wrongState))
        ∧ (∀ v, c.toNat % 16 = 1 → s.holds.vessel = some v →
          ((readHoldStatic (c :: q)).inRange = false
              ∨ (∃ g r, g ≠ h ∧ s.holds.holds.get g = some r
                ∧ (readHoldStatic (c :: q)).overlaps r.static = true) →
            exec (.loadHold (c :: q)) s = .next (s.refused 0x21 (c :: q) .badParam))
          ∧ ((readHoldStatic (c :: q)).inRange = true →
            (∀ g r, g ≠ h → s.holds.holds.get g = some r →
              (readHoldStatic (c :: q)).overlaps r.static = false) →
            ∃ t r, exec (.loadHold (c :: q)) s = .next t
              ∧ t.holds.holds = s.holds.holds.set h (some r)
              ∧ r.static = readHoldStatic (c :: q)
              ∧ r.reference = (r.static.travelMin + r.static.travelMax) / 2
              ∧ r.credited = 0 ∧ r.offset = none
              ∧ r.volume = (r.static.preload * 1000 + v.defaultDensity - 1) / v.defaultDensity
              ∧ r.deckLevel = deckLevelAt v s.holds.fore s.holds.aft r.reference
              ∧ t.holds.clearLevel = t.holds.findClearLevel
              ∧ t.holds.moment = some (v.baseMoment + momentOf t.holds.holds.toList)
              ∧ t.holds.cargo = some (cargoOf t.holds.holds.toList)
              ∧ t.service = s.answering t.notices 0x21 (c :: q) .done [] ∧ t.loop = s.loop
              ∧ s.keepsRest t ∧ t.SpoutDerived ∧ s.onlySpoutFollows t))
        ∧ (c.toNat % 16 = 0 → (∃ st ∈ s.plan.steps, st.state = .pending ∧ st.hold = h) →
          exec (.loadHold (c :: q)) s = .next (s.refused 0x21 (c :: q) .wrongState))
        ∧ (c.toNat % 16 = 0 → (∀ st ∈ s.plan.steps, st.state = .pending → st.hold ≠ h) →
          ∃ t, exec (.loadHold (c :: q)) s = .next t
            ∧ t.holds.holds = s.holds.holds.set h none
            ∧ t.holds.clearLevel = t.holds.findClearLevel
            ∧ t.holds.moment = s.holds.vessel.map (fun v => v.baseMoment + momentOf t.holds.holds.toList)
            ∧ t.holds.cargo = s.holds.vessel.map (fun _ => cargoOf t.holds.holds.toList)
            ∧ t.service = s.answering t.notices 0x21 (c :: q) .done [] ∧ t.loop = s.loop
            ∧ s.keepsRest t ∧ t.SpoutDerived ∧ s.onlySpoutFollows t))

/-- LOAD_AXIS (R91): refused outside SETUP, for a fourth axis and by the ranges of R90; accepted, the entry of the
axis is replaced; an axis that had none starts UNKNOWN with no recovery run. The other axes keep all but their
barriers, and the derived state is formed anew (R97). The lower four bits of the axis's character are not read (DESIGN
CHOICE, log 27). -/
def Obligations.LoadAxisReplacesTheEntry : Prop :=
  ∀ (s : State) (c : Byte) (q : List Byte), s.hears 12 (c :: q) →
    (s.modes.mode ≠ .setup → exec (.loadAxis (c :: q)) s = .next (s.refused 0x40 (c :: q) .wrongMode))
    ∧ (s.modes.mode = .setup → 2 < c.toNat / 16 →
      exec (.loadAxis (c :: q)) s = .next (s.refused 0x40 (c :: q) .badParam))
    ∧ ∀ a : Axis, s.modes.mode = .setup → axisOfNumber (c.toNat / 16) = some a →
      ((readAxisEntry a (c :: q)).inRange a = false →
        exec (.loadAxis (c :: q)) s = .next (s.refused 0x40 (c :: q) .badParam))
      ∧ ((readAxisEntry a (c :: q)).inRange a = true → ∃ t, exec (.loadAxis (c :: q)) s = .next t
        ∧ t.spout.axis a = { s.spout.axis a with
            entry := some (readAxisEntry a (c :: q)),
            known := (s.spout.axis a).entry.isSome && (s.spout.axis a).known,
            recovery := if (s.spout.axis a).entry.isSome then (s.spout.axis a).recovery else 0,
            runSample := if (s.spout.axis a).entry.isSome then (s.spout.axis a).runSample else none,
            down := (t.spout.axis a).down, up := (t.spout.axis a).up }
        ∧ (∀ b, b ≠ a → t.spout.axis b = { s.spout.axis b with
            down := (t.spout.axis b).down, up := (t.spout.axis b).up })
        ∧ t.holds = s.holds
        ∧ t.service = s.answering t.notices 0x40 (c :: q) .done [] ∧ t.loop = s.loop ∧ s.keepsRest t
        ∧ t.SpoutDerived ∧ s.onlySpoutFollows t)

/-- DECK_SAMPLE (R49 to R52): a fresh or returned value is held, and the deck is established once both rangers have
delivered; a returned one ends the loss; every deck level and the spout's derived state (R97) follow. The loss keeps
the held values and marks the ranger. DECK stands exactly while a ranger is LOST or the deck is not established. A
period without a value changes nothing. -/
def Obligations.DeckSampleLevelsTheDeck : Prop :=
  ∀ (s : State) (d : Deck) (h : Handed), s.pins.porst = false →
    (s.waitingFor (deckBinding d)).head? = some h →
    (∀ x, h.value = some x → ∃ t, exec (.deckSample d) s = .next t
      ∧ t.holds.fore = (if d = .fore then x.toInt else s.holds.fore)
      ∧ t.holds.aft = (if d = .aft then x.toInt else s.holds.aft)
      ∧ t.holds.foreSeen = (s.holds.foreSeen || decide (d = .fore))
      ∧ t.holds.aftSeen = (s.holds.aftSeen || decide (d = .aft))
      ∧ t.holds.established = (s.holds.established || (t.holds.foreSeen && t.holds.aftSeen))
      ∧ t.holds.foreLost = (s.holds.foreLost && !(decide (d = .fore) && decide (h = .returned x)))
      ∧ t.holds.aftLost = (s.holds.aftLost && !(decide (d = .aft) && decide (h = .returned x)))
      ∧ (∀ v g r, s.holds.vessel = some v → s.holds.holds.get g = some r →
        ∃ r', t.holds.holds.get g = some r' ∧ r'.credited = r.credited ∧ r'.volume = r.volume
          ∧ r'.deckLevel = deckLevelAt v t.holds.fore t.holds.aft r.reference)
      ∧ t.holds.moment = s.holds.moment ∧ t.holds.cargo = s.holds.cargo
      ∧ t.deckAgrees ∧ t.SpoutDerived ∧ t.loop = (s.taken (deckBinding d)).loop ∧ s.keepsDesk t
      ∧ s.onlySpoutFollows t)
    ∧ (h = .newlyLost → ∃ t, exec (.deckSample d) s = .next t
      ∧ t.holds = (match d with
          | .fore => { s.holds with foreLost := true }
          | .aft => { s.holds with aftLost := true })
      ∧ t.gate.stopSet.has .deck = true
      ∧ t.loop = (s.taken (deckBinding d)).loop ∧ s.keepsDesk t ∧ s.onlySpoutFollows t)
    ∧ (h = .notFresh ∨ h = .lost →
      exec (.deckSample d) s = .next { s with loop := (s.taken (deckBinding d)).loop, came := [] })

/-! ### The pour plan (chapter 4) -/

/-- APPEND_STEP and INSERT_STEP (R79): in every mode and plan state refused for a hold, a bill, a target or a flag that
R79 does not allow, for a full list, and for a position that is not among the PENDING steps; accepted where no activation
follows, the step stands at its position, PENDING, and the position is answered. The lower four bits of the break flag's
character are not read (DESIGN CHOICE, log 27). -/
def Obligations.StepsJoinTheList : Prop :=
  (∀ (s : State) (p : List Byte) (read : Option Step), s.hears 6 p → read = s.readStep
        (paramNat (readParams [.small, .small, .unsigned 4, .small] p) 0)
        (paramNat (readParams [.small, .small, .unsigned 4, .small] p) 1)
        (paramNat (readParams [.small, .small, .unsigned 4, .small] p) 2)
        (paramNat (readParams [.small, .small, .unsigned 4, .small] p) 3) →
    (read = none → exec (.appendStep p) s = .next (s.refused 0x30 p .badParam))
    ∧ ∀ st, read = some st →
      (32 ≤ s.plan.steps.length → exec (.appendStep p) s = .next (s.refused 0x30 p .storeFull))
      ∧ (s.plan.steps.length < 32 → s.modes.mode ≠ .loading ∨ s.plan.state ≠ .idle →
        exec (.appendStep p) s = .next { s with
          plan := { s.plan with steps := s.plan.steps ++ [st] }, came := [],
          service := s.answering s.notices 0x30 p .done [.num 1 s.plan.steps.length] }))
  ∧ (∀ (s : State) (c : Byte) (q : List Byte) (read : Option Step), s.hears 7 (c :: q) → read = s.readStep
        (paramNat (readParams [.small, .small, .unsigned 4, .small] q) 0)
        (paramNat (readParams [.small, .small, .unsigned 4, .small] q) 1)
        (paramNat (readParams [.small, .small, .unsigned 4, .small] q) 2)
        (paramNat (readParams [.small, .small, .unsigned 4, .small] q) 3) →
    (read = none → exec (.insertStep (c :: q)) s = .next (s.refused 0x31 (c :: q) .badParam))
    ∧ ∀ st, read = some st →
      (32 ≤ s.plan.steps.length →
        exec (.insertStep (c :: q)) s = .next (s.refused 0x31 (c :: q) .storeFull))
      ∧ (s.plan.steps.length < 32 →
        (s.plan.steps.length < c.toNat ∨ (∃ x ∈ s.plan.steps.drop c.toNat, x.state ≠ .pending) →
          exec (.insertStep (c :: q)) s = .next (s.refused 0x31 (c :: q) .position))
        ∧ (c.toNat ≤ s.plan.steps.length → (∀ x ∈ s.plan.steps.drop c.toNat, x.state = .pending) →
          s.modes.mode ≠ .loading ∨ s.plan.state ≠ .idle →
          exec (.insertStep (c :: q)) s = .next { s with
            plan := { s.plan with
              steps := s.plan.steps.take c.toNat ++ st :: s.plan.steps.drop c.toNat }, came := [],
            service := s.answering s.notices 0x31 (c :: q) .done [.num 1 c.toNat] })))
  ∧ ∀ (s : State) (hold bill target flag : Nat) (st : Step), s.readStep hold bill target flag = some st ↔
    ∃ (h : HoldNo) (b : BillNo) (v : VesselRecord), hold = h.val + 1 ∧ bill = b.val + 1
      ∧ s.holds.vessel = some v ∧ (s.holds.holds.get h).isSome = true
      ∧ (s.bills.records.get b).isOpen = true ∧ 1 ≤ target ∧ target ≤ v.cargoLimit ∧ flag ≤ 1
      ∧ st = { hold := h, bill := b, target := target, breakFlag := flag == 1, state := .pending,
               credited := 0, topUps := 0, outcome := none, resumeNeeded := false,
               breakPassed := false, kinds := ⟨0⟩ }

/-- Activation (R66, R67, R69), as it follows an APPEND_STEP or an INSERT_STEP in LOADING on a plan that is IDLE with no
step to do: the step becomes ACTIVE and gives the lot tag; the activation check blocks it, or the plan waits for the
spout; where the spout is ready, a break flag makes it wait for PROCEED, and otherwise it pours (R71), with no TOP_UP cap
(R78). What is refused there is stated in StepsJoinTheList. The lower four bits of the break flag's character are not
read (DESIGN CHOICE, log 27). -/
def Obligations.AppendedStepIsActivated : Prop :=
  ∀ (s : State) (p : List Byte) (st : Step),
    s.readStep (paramNat (readParams [.small, .small, .unsigned 4, .small] p) 0)
      (paramNat (readParams [.small, .small, .unsigned 4, .small] p) 1)
      (paramNat (readParams [.small, .small, .unsigned 4, .small] p) 2)
      (paramNat (readParams [.small, .small, .unsigned 4, .small] p) 3) = some st →
    s.plan.steps.length < 32 → s.modes.mode = .loading → s.plan.state = .idle →
    (∀ x ∈ s.plan.steps, x.ended = true) →
    (s.hears 6 p → ∃ t, exec (.appendStep p) s = .next t
      ∧ s.Activated t (s.plan.steps ++ [st]) s.plan.steps.length st (s.activationCheck st)
      ∧ t.plan.lastEnded = s.plan.lastEnded ∧ t.gate.topUpCap = none
      ∧ t.service = s.answering t.notices 0x30 p .done [.num 1 s.plan.steps.length] ∧ s.keepsRest t)
    ∧ ∀ c : Byte, s.hears 7 (c :: p) → c.toNat = s.plan.steps.length →
      ∃ t, exec (.insertStep (c :: p)) s = .next t
        ∧ s.Activated t (s.plan.steps ++ [st]) s.plan.steps.length st (s.activationCheck st)
        ∧ t.plan.lastEnded = s.plan.lastEnded ∧ t.gate.topUpCap = none
        ∧ t.service = s.answering t.notices 0x31 (c :: p) .done [.num 1 c.toNat] ∧ s.keepsRest t

/-- DELETE_STEP (R80), SKIP_STEP of a PENDING step (R82) and PRUNE_PLAN (R84) change the list alone: the step is
removed; it is SKIPPED and moves behind the last DONE or SKIPPED step; the DONE and SKIPPED steps at the head are
removed and counted, and no step is then the last ended one. -/
def Obligations.ListEditsChangeTheListAlone : Prop :=
  (∀ (s : State) (c : Byte), s.hears 1 [c] →
    exec (.deleteStep [c]) s = .next (match s.plan.steps[c.toNat]? with
      | none => s.refused 0x32 [c] .notFound
      | some st => if st.state = .pending then { s with
          plan := { s.plan with steps := s.plan.steps.take c.toNat ++ s.plan.steps.drop (c.toNat + 1) },
          service := s.answering s.notices 0x32 [c] .done [], came := [] }
        else s.refused 0x32 [c] .wrongState)
    ∧ (s.plan.steps[c.toNat]? = none →
      exec (.skipStep [c]) s = .next (s.refused 0x34 [c] .notFound))
    ∧ (∀ st, s.plan.steps[c.toNat]? = some st → st.ended = true →
      exec (.skipStep [c]) s = .next (s.refused 0x34 [c] .wrongState))
    ∧ ∀ (ended active before after : List Step) (st : Step),
      s.plan.steps = ended ++ active ++ before ++ st :: after →
      c.toNat = (ended ++ active ++ before).length → (∀ x ∈ ended, x.ended = true) →
      (∀ x ∈ active, x.state = .active) → (∀ x ∈ before ++ st :: after, x.state = .pending) →
      exec (.skipStep [c]) s = .next { s with
        plan := { s.plan with
          steps := ended ++ { st with state := .skipped } :: (active ++ before ++ after) },
        service := s.answering s.notices 0x34 [c] .done [], came := [] })
  ∧ ∀ (s : State) (ended left : List Step), s.hears 0 [] → s.plan.steps = ended ++ left →
    (∀ x ∈ ended, x.ended = true) → (∀ x, left.head? = some x → x.ended = false) →
    exec (.prunePlan []) s = .next { s with
      plan := { s.plan with steps := left, lastEnded := none }, came := [],
      service := s.answering s.notices 0x37 [] .done [.num 1 ended.length] }

/-- SET_TARGET (R81): refused for a position with no step, a target outside 1 to the cargo limit, a DONE or SKIPPED
step and an ACTIVE step whose check the new target fails; accepted, the target is replaced. A BLOCKED plan then leaves
BLOCKED: it waits for the spout, or, over a ready spout in LOADING, makes the test of R69 at once, and waits for PROCEED
where a resume is needed or a break stands, or enters POURING (R71), with the stops and interruptions of that entry. A
POURING one stops where the new target is already met. -/
def Obligations.SetTargetReplacesTheTarget : Prop :=
  ∀ (s : State) (c : Byte) (q : List Byte), s.hears 5 (c :: q) →
    (s.plan.steps[c.toNat]? = none →
      exec (.setTarget (c :: q)) s = .next (s.refused 0x33 (c :: q) .notFound))
    ∧ ∀ st v, s.plan.steps[c.toNat]? = some st → s.holds.vessel = some v →
      (natOfChars q = 0 ∨ v.cargoLimit < natOfChars q →
        exec (.setTarget (c :: q)) s = .next (s.refused 0x33 (c :: q) .badParam))
      ∧ (1 ≤ natOfChars q → natOfChars q ≤ v.cargoLimit →
        (st.ended = true → exec (.setTarget (c :: q)) s = .next (s.refused 0x33 (c :: q) .wrongState))
        ∧ (st.state = .pending → exec (.setTarget (c :: q)) s = .next { s with
            plan := { s.plan with steps := s.plan.steps.set c.toNat { st with target := natOfChars q } },
            service := s.answering s.notices 0x33 (c :: q) .done [], came := [] })
        ∧ (st.state = .active → s.activationCheck { st with target := natOfChars q } ≠ none →
          exec (.setTarget (c :: q)) s = .next (s.refused 0x33 (c :: q) .trimLimit))
        ∧ (st.state = .active → s.activationCheck { st with target := natOfChars q } = none →
          ∃ t, exec (.setTarget (c :: q)) s = .next t
            ∧ t.service = s.answering t.notices 0x33 (c :: q) .done []
            ∧ (∃ st', t.plan.steps[c.toNat]? = some st' ∧ st'.target = natOfChars q
              ∧ st'.state = .active ∧ st'.credited = st.credited)
            ∧ ((∀ r, s.plan.state ≠ .blocked r) → s.plan.state ≠ .pouring → t = { s with
                plan := { s.plan with
                  steps := s.plan.steps.set c.toNat { st with target := natOfChars q } },
                service := t.service, came := [] })
            ∧ (∀ r, s.plan.state = .blocked r → (∀ r', t.plan.state ≠ .blocked r')
              ∧ (s.plan.activePosition = some c.toNat →
                (s.modes.mode ≠ .loading ∨ s.spoutReady = false → s.posted t (.plan .activated) ∧ t = { s with
                  plan := { s.plan with
                    steps := s.plan.steps.set c.toNat { st with target := natOfChars q }, state := .waitSpout },
                  notices := t.notices, service := t.service, came := [] })
                ∧ (s.modes.mode = .loading → s.spoutReady = true →
                  (st.resumeNeeded = true ∨ (st.breakFlag = true ∧ st.breakPassed = false) →
                    t.announces (.plan .waitProceed) ∧ t = { s with
                      plan := { s.plan with
                        steps := s.plan.steps.set c.toNat { st with target := natOfChars q },
                        state := .waitProceed },
                      notices := t.notices, service := t.service, came := [.spoutReadyPour] })
                  ∧ (st.resumeNeeded = false → st.breakFlag = false ∨ st.breakPassed = true →
                    s.PourEntered t st.kinds false))))
            ∧ (s.plan.state = .pouring → s.plan.activePosition = some c.toNat →
              if natOfChars q ≤ st.credited + (s.bills.records.get st.bill).inTransit
                  + (if st.topUps = 0 then v.allowance else 0) then
                t.plan.state = .stopping .target ∨ t.plan.state = .draining .target s.weigher.odometer
              else t.plan.state = .pouring)
            ∧ s.keepsRest t))

/-- HOLD_PLAN (R83) and SKIP_STEP of the ACTIVE step (R82). HOLD_PLAN stops a pour or an interruption with the cause
HELD, draining at once where the gate shows closed (R76), and marks a step that waits for the spout; elsewhere it is
refused. The ACTIVE step is skipped while BLOCKED, WAIT_SPOUT or WAIT_PROCEED: outside LOADING, and where no step is left
to do, the plan is then IDLE with no lot tag, no TOP_UP cap (R78), no HATCH (R148) and SPOUT standing (R99); in LOADING
the first PENDING step is activated (R66). -/
def Obligations.HoldAndSkipOfTheActiveStep : Prop :=
  (∀ s : State, s.hears 0 [] →
    (s.plan.state = .pouring ∨ s.plan.state = .interrupted → ∃ t, exec (.holdPlan []) s = .next t
      ∧ t = { s with
          plan := { s.plan with
            state := if s.gateShowsClosed = true then .draining .held s.weigher.odometer
              else .stopping .held },
          gate := { s.gate with stopSet := s.gate.stopSet.add .plan },
          notices := t.notices, service := s.answering t.notices 0x35 [] .done [],
          came := if s.gateShowsClosed = true then [.drainStart] else [] }
      ∧ t.gate.stopSet.has .plan = true)
    ∧ (s.plan.state = .waitSpout → exec (.holdPlan []) s = .next { s with
        plan := s.plan.modifyActive (fun st => { st with resumeNeeded := true }),
        service := s.answering s.notices 0x35 [] .done [], came := [] })
    ∧ (s.plan.state ≠ .pouring → s.plan.state ≠ .interrupted → s.plan.state ≠ .waitSpout →
      exec (.holdPlan []) s = .next (s.refused 0x35 [] .wrongState)))
  ∧ ∀ (s : State) (c : Byte) (st : Step), s.hears 1 [c] → s.plan.steps[c.toNat]? = some st →
    st.state = .active →
    (s.plan.state ≠ .waitSpout → s.plan.state ≠ .waitProceed → (∀ r, s.plan.state ≠ .blocked r) →
      exec (.skipStep [c]) s = .next (s.refused 0x34 [c] .stepActive))
    ∧ (s.plan.state = .waitSpout ∨ s.plan.state = .waitProceed ∨ (∃ r, s.plan.state = .blocked r) →
      s.modes.mode ≠ .loading ∨ (∀ x ∈ s.plan.steps, x.state ≠ .pending) → ∃ t, exec (.skipStep [c]) s = .next t
        ∧ t.plan = ⟨s.plan.steps.map (fun x => if x.state = .active then { x with state := .skipped } else x),
            .idle, s.plan.activePosition⟩
        ∧ t.weigher.tag = none ∧ t.gate.topUpCap = none
        ∧ t.gate.stopSet.has .hatch = false ∧ t.gate.stopSet.has .spout = true
        ∧ t.service = s.answering t.notices 0x34 [c] .done [] ∧ s.keepsRest t)
    ∧ ∀ j next, s.plan.state = .waitSpout ∨ s.plan.state = .waitProceed ∨ (∃ r, s.plan.state = .blocked r) →
      s.modes.mode = .loading → firstPendingAt s.plan.steps j next → ∃ t, exec (.skipStep [c]) s = .next t
        ∧ s.Activated t
          (s.plan.steps.map (fun x => if x.state = .active then { x with state := .skipped } else x)) j next
          (s.activationCheck next)
        ∧ t.plan.lastEnded = s.plan.activePosition
        ∧ t.service = s.answering t.notices 0x34 [c] .done [] ∧ s.keepsRest t

/-- PROCEED (R70, R71): refused outside LOADING and outside WAIT_PROCEED; accepted, the resume-needed flag is cleared
and the break-passed flag set, and the plan waits for the spout or enters POURING. At that entry a target or a limit
that is met stops the pour with its cause (R72, R73, R76), and reasons that stand interrupt it with them as its kinds,
DUST being counted for the bill (R74). Where nothing stands against the pour, it is POURING and PLAN is cleared. -/
def Obligations.ProceedPoursOrWaits : Prop :=
  ∀ s : State, s.hears 0 [] →
    (s.modes.mode ≠ .loading → exec (.proceed []) s = .next (s.refused 0x36 [] .wrongMode))
    ∧ (s.modes.mode = .loading → s.plan.state ≠ .waitProceed →
      exec (.proceed []) s = .next (s.refused 0x36 [] .wrongState))
    ∧ ∀ st, s.modes.mode = .loading → s.plan.state = .waitProceed → s.plan.active = some st →
      ∃ t, exec (.proceed []) s = .next t ∧ t.service = s.answering t.notices 0x36 [] .done []
        ∧ (∃ st', t.plan.active = some st' ∧ st' = { st with
            resumeNeeded := false, breakPassed := true, kinds := st'.kinds })
        ∧ (s.spoutReady = false → s.posted t (.plan .waitSpout) ∧ t = { s with
            plan := { s.plan.modifyActive (fun x => { x with resumeNeeded := false, breakPassed := true })
              with state := .waitSpout },
            notices := t.notices, service := t.service, came := [] })
        ∧ (s.spoutReady = true → s.PourEntered t st.kinds false)
        ∧ (s.spoutReady = true → s.weigher.tag = some st.bill → s.anticipationMet = false →
          s.limitCause = none → s.gate.stopSet.others.isEmpty = true →
          t.plan.state = .pouring ∧ s.posted t (.plan .pouring) ∧ t = { s with
            plan := t.plan, gate := { s.gate with stopSet := s.gate.stopSet.remove .plan },
            notices := t.notices, service := t.service, came := [] })
        ∧ s.keepsRest t

/-- A drain (R76 to R78). A GATE_POS value at or below the gate closed limit starts it from the odometer as it stands,
and the advance that brings the belt a transit distance and a segment beyond the mark completes it: HELD waits for
PROCEED, TRIM and CARGO block the step; TARGET tops up a step that falls short, up to three times, by an entry to
POURING (R71) with its stops and interruptions, and otherwise ends it DONE with its outcome. Outside LOADING, and where
no step is left to do, the plan is then IDLE with no lot tag; in LOADING the first PENDING step is activated (R66). -/
def Obligations.DrainStartsAndCompletes : Prop :=
  (∀ (s : State) (c : StopCause) (g : Half) (tab : WeighTable), s.pins.porst = false →
    s.plan.state = .stopping c → (s.waitingFor .gatePos).head? = some (.fresh g) →
    s.weigher.table = some tab → min 1000 g.toNat ≤ tab.gateClosedLimit → s.gate.positionLost = false →
    ∃ t, exec .drainStart s = .next t ∧ s.posted t (.plan .draining) ∧ t = { s with
      plan := { s.plan with state := .draining c s.weigher.odometer },
      gate := { s.gate with position := some (min 1000 g.toNat) },
      loop := (s.taken .gatePos).loop, notices := t.notices, came := [.drainStart] })
  ∧ ∀ (s : State) (tab : WeighTable) (v : Half) (cause : StopCause) (mark : Count32) (st : Step)
      (r : VesselRecord), s.BeltRuns tab v → s.plan.state = .draining cause mark →
    noneDue tab (s.odometerAfter tab v) s.queue.closed →
    s.plan.active = some st → s.holds.vessel = some r →
    (tab.transitDistance + tab.segmentLength) * 100 ≤ wrapDiff (s.odometerAfter tab v) mark →
    ∃ t, exec .drainComplete s = .next t ∧ t.weigher.odometer = s.odometerAfter tab v
      ∧ (cause = .held → t.plan = { s.plan with state := .waitProceed })
      ∧ (cause = .trim → t.plan = { s.plan with state := .blocked .trim })
      ∧ (cause = .cargo → t.plan = { s.plan with state := .blocked .cargo })
      ∧ (cause = .target → (r.tolerance : Int) < st.target - st.credited → st.topUps < 3 →
        t.gate.topUpCap = some r.topUpCap ∧ s.PourEntered t .empty true
        ∧ ∃ st', t.plan.active = some st' ∧ st'.topUps = st.topUps + 1 ∧ st'.credited = st.credited)
      ∧ (∀ ended, cause = .target → (st.target : Int) - st.credited ≤ r.tolerance ∨ 3 ≤ st.topUps →
        ended = s.plan.steps.map (fun x => if x.state = .active then { x with
          state := .done,
          outcome := some (if (r.tolerance : Int) < st.target - st.credited then .short
            else if st.target + r.tolerance < st.credited then .over else .onTarget,
            (st.credited : Int) - st.target) } else x) →
        (s.modes.mode ≠ .loading ∨ (∀ x ∈ s.plan.steps, x.state ≠ .pending) →
          t.weigher.tag = none ∧ t.gate.topUpCap = none ∧ t.plan = ⟨ended, .idle, s.plan.activePosition⟩)
        ∧ ∀ j next, s.modes.mode = .loading → firstPendingAt s.plan.steps j next →
          s.Activated t ended j next (s.activationCheck next) ∧ t.plan.lastEnded = s.plan.activePosition)
      ∧ s.keepsRest t

/-- The plan's own turns (R69, R74, R75), each in a command that brings it about. RESUME, which leads to LOADING (R87,
R193), on a plan that waits for a ready spout lets it enter POURING, or wait for PROCEED where a resume is needed or a
break stands. ACK_CONTACT that clears the last reason ends an interruption: caused by the spout alone, it enters
POURING; otherwise it waits for PROCEED. So does an axis's sample that makes the spout ready again, SPOUT being the
last reason. Each entry to POURING stops at once, with its cause, where the target or a limit is met, and is
interrupted by the reasons that stand (R71 to R74, R76). SUSPEND interrupts a pour by MODE, with the reasons that then
stand as its kinds. A dust zone that rises to STOP interrupts a pour, or joins the kinds of an interruption, and counts
one dust stop for the step's bill in the interruption, saturating (R155). -/
def Obligations.PlanTurnsInARequest : Prop :=
  (∀ (s : State) (st : Step), s.hears 0 [] → s.modes.mode = .suspended → s.loop.state = .run →
    s.plan.state = .waitSpout → s.plan.active = some st → s.spoutReady = true →
    ∃ t, exec (.spoutReadyPour .resume) s = .next t ∧ t.modes = { s.modes with mode := .loading }
      ∧ t.service = s.answering t.notices 0xA3 [] .done []
      ∧ (st.resumeNeeded = true ∨ (st.breakFlag = true ∧ st.breakPassed = false) →
        t.plan = { s.plan with state := .waitProceed })
      ∧ (st.resumeNeeded = false → st.breakFlag = false ∨ st.breakPassed = true →
        s.PourEntered t st.kinds false))
  ∧ (∀ (s : State) (st : Step), s.hears 0 [] → s.contacts.latch = true → s.contacts.cordActive = false →
    s.plan.state = .interrupted → s.plan.active = some st → s.gate.stopSet.has .pullCord = true →
    (s.gate.stopSet.remove .pullCord).others.isEmpty = true →
    ∃ t, exec (.interruptionEnd .ackContact) s = .next t ∧ t.contacts = { s.contacts with latch := false }
      ∧ t.gate.stopSet.has .pullCord = false ∧ t.service = s.answering t.notices 0x62 [] .done []
      ∧ (st.kinds = ReasonSet.spoutAlone → s.PourEntered t st.kinds false)
      ∧ (st.kinds ≠ ReasonSet.spoutAlone → t.plan = { s.plan.modifyActive
          (fun x => { x with resumeNeeded := true }) with state := .waitProceed }))
  ∧ (∀ (s : State) (a : Axis) (h : Handed) (st : Step), s.pins.porst = false →
    (s.waitingFor (axisBinding a)).head? = some h →
    ((s.spout.axis a).takeSample a h).2 = .accepted ∨ ((s.spout.axis a).takeSample a h).2 = .recovered →
    s.plan.state = .interrupted → s.plan.active = some st → s.gate.stopSet.has .spout = true →
    (s.gate.stopSet.remove .spout).others.isEmpty = true →
    ∃ t, exec (.axisSample a) s = .next t
      ∧ (t.spoutReady = false → t.plan = s.plan ∧ t.gate.stopSet = s.gate.stopSet)
      ∧ (t.spoutReady = true → exec (.interruptionEnd (.axis a)) s = .next t
        ∧ t.gate.stopSet.has .spout = false
        ∧ (st.kinds = ReasonSet.spoutAlone → s.PourEntered t st.kinds false
          ∧ (t.anticipationMet = false → t.trimExceeded = false → t.cargoReached = false →
            t.plan = { s.plan with state := .pouring } ∧ t.gate.stopSet.has .plan = false))
        ∧ (st.kinds ≠ ReasonSet.spoutAlone → t.plan = { s.plan.modifyActive
            (fun x => { x with resumeNeeded := true }) with state := .waitProceed })))
  ∧ (∀ (s : State) (st : Step), s.hears 0 [] → s.modes.mode = .loading → s.plan.state = .pouring →
    s.plan.active = some st → s.gate.stopSet.has .mode = false → (∀ z, s.gate.stopSet.has (.dust z) = false) →
    ∃ t kinds, exec (.suspend []) s = .next t ∧ (∀ r, kinds.has r = true ↔
        r ≠ .plan ∧ (r = .mode ∨ s.gate.stopSet.has r = true))
      ∧ s.posted t (.plan .interrupted) ∧ t = { s with
        modes := { s.modes with mode := .suspended },
        plan := { s.plan.modifyActive (fun x => { x with kinds := kinds }) with state := .interrupted },
        gate := { s.gate with stopSet := (s.gate.stopSet.add .mode).add .plan },
        notices := t.notices, service := s.answering t.notices 0xA2 [] .done [], came := [] })
  ∧ ∀ (s : State) (z : ZoneNo) (h : Handed) (x : Half) (r : ZoneRecord) (st : Step) (l : Lot),
    s.pins.porst = false → (s.waitingFor (.dust z)).head? = some h → h.value = some x →
    (s.dust.get z).pendingRecord = none → (s.dust.get z).record = some r →
    s.loop.maps (.dust z) = true →
    (s.dust.get z).state = .clear ∨ (s.dust.get z).state = .warn ∨ (s.dust.get z).state = .high →
    r.stop ≤ x.toNat → r.rise ≤ min 50 ((s.dust.get z).stopCount + 1) →
    (s.dust.get z).exposure < r.threshold → min 65535 ((s.dust.get z).exposure + 1) < r.threshold →
    s.gate.stopSet.has (.dust z) = false → s.plan.active = some st →
    s.bills.records.get st.bill = .opened l →
    s.plan.state = .pouring ∨ s.plan.state = .interrupted →
    ∃ t, exec (.dustRise z) s = .next t ∧ t.plan.state = .interrupted
      ∧ t.gate.stopSet.has (.dust z) = true
      ∧ (s.plan.state = .pouring → t.gate.stopSet.has .plan = true)
      ∧ (∃ st', t.plan.active = some st' ∧ st'.kinds.has (.dust z) = true
        ∧ st' = { st with kinds := st'.kinds })
      ∧ t.bills.records.get st.bill = .opened (
        if s.plan.state = .interrupted ∧ ∃ y, st.kinds.has (.dust y) = true then l
        else { l with dustStops := min 65535 (l.dustStops + 1) })

/-! ### Spout travel supervision (chapter 5) -/

/-- An axis's event of a period (R92 to R94). A KNOWN axis takes a sample in its range and within the step limit as
its position; another is discarded and counted, and the third in a row, like the binding's loss, makes the axis
UNKNOWN with its position kept: the spout position is then UNKNOWN and SPOUT stands. A change of the position state
gives its SPOUT notice (R110). With a new position, and with an
axis become UNKNOWN, the spout's derived state is formed anew (R97). Without an entry no sample is taken (R95). The
binding's loss on an axis UNKNOWN already ends its recovery run: that AXIS_UNKNOWN does not come about then is the
model's choice (DESIGN CHOICE, log 43). -/
def Obligations.AxisSampleIsJudged : Prop :=
  ∀ (s : State) (a : Axis) (h : Handed), s.pins.porst = false →
    (s.waitingFor (axisBinding a)).head? = some h →
    (h = .notFresh ∨ h = .lost ∨ (h ≠ .newlyLost ∧ (s.spout.axis a).entry = none) →
      exec (.axisSample a) s = .next { s with
      spout := s.spout.setAxis a { s.spout.axis a with
        positionGap := min 65535 ((s.spout.axis a).positionGap + 1),
        runGap := min 65535 ((s.spout.axis a).runGap + 1) },
      loop := (s.taken (axisBinding a)).loop, came := [] })
    ∧ (h = .newlyLost → (s.spout.axis a).known = true → ∃ t, exec (.axisUnknown a) s = .next t
      ∧ t.spout.axis a = { s.spout.axis a with
          known := false, implausible := 0, recovery := 0, runSample := none,
          positionGap := min 65535 ((s.spout.axis a).positionGap + 1),
          runGap := min 65535 ((s.spout.axis a).runGap + 1),
          down := (t.spout.axis a).down, up := (t.spout.axis a).up }
      ∧ t.spout.position = .unknown ∧ t.gate.stopSet.has .spout = true ∧ t.SpoutDerived
      ∧ s.SpoutTold t
      ∧ t.loop = (s.taken (axisBinding a)).loop ∧ s.keepsDesk t ∧ s.onlySpoutFollows t)
    ∧ (h = .newlyLost → (s.spout.axis a).known = false →
      exec (.axisSample a) s = .next { s with
        spout := s.spout.setAxis a { s.spout.axis a with
          implausible := 0, recovery := 0, runSample := none,
          positionGap := min 65535 ((s.spout.axis a).positionGap + 1),
          runGap := min 65535 ((s.spout.axis a).runGap + 1) },
        loop := (s.taken (axisBinding a)).loop, came := [] }
      ∧ exec (.axisUnknown a) s = .next s)
    ∧ ∀ x e acc, h.value = some x → (s.spout.axis a).entry = some e → (s.spout.axis a).known = true →
      (s.spout.axis a).accepted = some acc →
      ((inAxisRange a (readPosition a x) = true
          ∧ (readPosition a x - acc).natAbs
            ≤ min 65535 (e.maxStep * min 65535 ((s.spout.axis a).positionGap + 1)) →
        ∃ t, exec (.axisSample a) s = .next t
          ∧ t.spout.axis a = { s.spout.axis a with
              accepted := some (readPosition a x), positionGap := 0, implausible := 0,
              runGap := min 65535 ((s.spout.axis a).runGap + 1),
              down := (t.spout.axis a).down, up := (t.spout.axis a).up }
          ∧ t.SpoutDerived ∧ s.SpoutTold t ∧ t.loop = (s.taken (axisBinding a)).loop ∧ s.keepsDesk t
          ∧ s.onlySpoutFollows t))
      ∧ (inAxisRange a (readPosition a x) = false
          ∨ min 65535 (e.maxStep * min 65535 ((s.spout.axis a).positionGap + 1))
            < (readPosition a x - acc).natAbs →
        ((s.spout.axis a).implausible < 2 → exec (.axisSample a) s = .next { s with
          spout := s.spout.setAxis a { s.spout.axis a with
            implausible := (s.spout.axis a).implausible + 1,
            positionGap := min 65535 ((s.spout.axis a).positionGap + 1),
            runGap := min 65535 ((s.spout.axis a).runGap + 1) },
          loop := (s.taken (axisBinding a)).loop, came := [] })
        ∧ ((s.spout.axis a).implausible = 2 → ∃ t, exec (.axisUnknown a) s = .next t
          ∧ (t.spout.axis a).known = false ∧ (t.spout.axis a).accepted = some acc
          ∧ (t.spout.axis a).implausible = 0 ∧ (t.spout.axis a).recovery = 0
          ∧ t.spout.position = .unknown ∧ t.gate.stopSet.has .spout = true ∧ t.SpoutDerived
          ∧ s.SpoutTold t ∧ s.keepsDesk t ∧ s.onlySpoutFollows t))

/-- The recovery of an UNKNOWN axis (R94, R95). A sample out of range ends the recovery run, a first or a far one
starts it, a near one lengthens it, and the fourth in a run becomes the position of an axis that is KNOWN again, with
which the spout's derived state is formed anew (R97) and tells of its position state (R110). What the binding's loss
does to the run is stated in AxisSampleIsJudged. -/
def Obligations.AxisRecoversInFourSamples : Prop :=
  ∀ (s : State) (a : Axis) (h : Handed) (x : Half) (e : AxisEntry), s.pins.porst = false →
    (s.waitingFor (axisBinding a)).head? = some h → h.value = some x →
    (s.spout.axis a).entry = some e → (s.spout.axis a).known = false →
    (inAxisRange a (readPosition a x) = false → exec (.axisSample a) s = .next { s with
      spout := s.spout.setAxis a { s.spout.axis a with
        recovery := 0, runSample := none,
        positionGap := min 65535 ((s.spout.axis a).positionGap + 1),
        runGap := min 65535 ((s.spout.axis a).runGap + 1) },
      loop := (s.taken (axisBinding a)).loop, came := [] })
    ∧ (inAxisRange a (readPosition a x) = true →
      (∀ y, (s.spout.axis a).runSample = some y → (s.spout.axis a).recovery = 0
        ∨ min 65535 (e.maxStep * min 65535 ((s.spout.axis a).runGap + 1))
          < (readPosition a x - y).natAbs) →
      exec (.axisSample a) s = .next { s with
        spout := s.spout.setAxis a { s.spout.axis a with
          runSample := some (readPosition a x), runGap := 0, recovery := 1,
          positionGap := min 65535 ((s.spout.axis a).positionGap + 1) },
        loop := (s.taken (axisBinding a)).loop, came := [] })
    ∧ ∀ y, inAxisRange a (readPosition a x) = true → (s.spout.axis a).runSample = some y →
      (readPosition a x - y).natAbs
        ≤ min 65535 (e.maxStep * min 65535 ((s.spout.axis a).runGap + 1)) →
      ((s.spout.axis a).recovery = 1 ∨ (s.spout.axis a).recovery = 2 →
        exec (.axisSample a) s = .next { s with
          spout := s.spout.setAxis a { s.spout.axis a with
            runSample := some (readPosition a x), runGap := 0,
            recovery := (s.spout.axis a).recovery + 1,
            positionGap := min 65535 ((s.spout.axis a).positionGap + 1) },
          loop := (s.taken (axisBinding a)).loop, came := [] })
      ∧ ((s.spout.axis a).recovery = 3 → ∃ t, exec (.axisRecovery a) s = .next t
        ∧ (t.spout.axis a).known = true ∧ (t.spout.axis a).accepted = some (readPosition a x)
        ∧ (t.spout.axis a).positionGap = 0 ∧ (t.spout.axis a).implausible = 0
        ∧ (t.spout.axis a).recovery = 0 ∧ (t.spout.axis a).runSample = none ∧ t.SpoutDerived
        ∧ s.SpoutTold t
        ∧ t.loop = (s.taken (axisBinding a)).loop ∧ s.keepsDesk t ∧ s.onlySpoutFollows t)

/-- The velocity clamp (R106 to R108). An axis command is written as it stands between the allowed speeds toward the
two barriers and is cut to them beyond; with an axis UNKNOWN or PULL_CORD standing it is 0. The allowed speed is 0
within the margin, at most vmax, and at most the gain's share of the distance beyond the margin. Every step keeps the
spout's derived state as its rules form it: the position state, the drop, the band and the DROP cap, and the barriers
with their distances and allowed speeds (R96 to R98, R100, R101, R103 to R106). -/
def Obligations.ClampKeepsTheAllowedSpeeds : Prop :=
  (∀ (s : State) (a : Axis) (command : Int),
    s.clampCommand a command =
      if s.spout.travel.known = true ∧ s.spout.reach.known = true ∧ s.spout.drop.known = true
          ∧ s.gate.stopSet.has .pullCord = false then
        max (-((s.spout.axis a).down.speed : Int)) (min (s.spout.axis a).up.speed command)
      else 0)
  ∧ (∀ (e : AxisEntry) (d : Nat), (d ≤ e.margin → allowedSpeed e d = 0) ∧ allowedSpeed e d ≤ e.vmax
    ∧ (e.margin < d → 16 * allowedSpeed e d ≤ (d - e.margin) * e.gain
      ∧ (allowedSpeed e d < e.vmax → (d - e.margin) * e.gain < 16 * (allowedSpeed e d + 1))))
  ∧ ∀ s t : State, s.SpoutDerived → step s = .next t → t.SpoutDerived

/-! ### Dust supervision (chapter 6) -/

/-- LOAD_ZONE (R114) and ACK_DUST (R124): their refusals in order. A record accepted waits as the pending record and
changes nothing else. An acknowledged LATCHED zone has no exposure and begins a purge, which a purge time of 0
expires at once into the state that R121 gives for the latest sample, into CLEAR where the zone has none (log 21).
The lower four bits of the character of ACK_DUST and of READ_EXPOSURE are not read (DESIGN CHOICE, log 27). -/
def Obligations.ZoneRecordsAndAcknowledgement : Prop :=
  (∀ (s : State) (c : Byte) (q : List Byte), s.hears 19 (c :: q) →
    (c.toNat / 16 = 0 ∨ 6 < c.toNat / 16 ∨ 1 < c.toNat % 16 →
      exec (.loadZone (c :: q)) s = .next (s.refused 0x50 (c :: q) .badParam))
    ∧ ∀ z : ZoneNo, c.toNat / 16 = z.val + 1 → c.toNat % 16 ≤ 1 →
      ((s.dust.get z).state = .latched →
        exec (.loadZone (c :: q)) s = .next (s.refused 0x50 (c :: q) .wrongState))
      ∧ ((s.dust.get z).state ≠ .latched → c.toNat % 16 = 0 → exec (.loadZone (c :: q)) s = .next { s with
          dust := s.dust.set z { s.dust.get z with pendingRecord := some none },
          service := s.answering s.notices 0x50 (c :: q) .done [], came := [] })
      ∧ ((s.dust.get z).state ≠ .latched → c.toNat % 16 = 1 →
        exec (.loadZone (c :: q)) s = .next (
          if (readZoneRecord (c :: q)).inRange z = false then s.refused 0x50 (c :: q) .badParam
          else if s.loop.maps (.dust z) = false then s.refused 0x50 (c :: q) .mapIncomplete
          else { s with
            dust := s.dust.set z { s.dust.get z with
              pendingRecord := some (some (readZoneRecord (c :: q))) },
            service := s.answering s.notices 0x50 (c :: q) .done [], came := [] })))
  ∧ (∀ (s : State) (c : Byte), s.hears 1 [c] →
    (c.toNat / 16 = 0 ∨ 6 < c.toNat / 16 → exec (.ackDust [c]) s = .next (s.refused 0x51 [c] .badParam))
    ∧ ∀ z : ZoneNo, c.toNat / 16 = z.val + 1 →
      ((s.dust.get z).state ≠ .latched →
        exec (.ackDust [c]) s = .next (s.refused 0x51 [c] .wrongState))
      ∧ ∀ r, (s.dust.get z).state = .latched → (s.dust.get z).record = some r →
        (∀ x, (s.dust.get z).latest = some x → r.warn ≤ x →
          exec (.ackDust [c]) s = .next (s.refused 0x51 [c] .levelHigh))
        ∧ ((∀ x, (s.dust.get z).latest = some x → x < r.warn) → ∃ t, exec (.ackDust [c]) s = .next t
          ∧ t.dust.get z =
            ({ s.dust.get z with exposure := 0 } : Zone).purged r ((s.dust.get z).latest.getD 0)
          ∧ (r.purgeTime = 0 → (s.dust.get z).latest = none → r.inRange z = true →
            (t.dust.get z).state = .clear)
          ∧ t.service = s.answering t.notices 0x51 [c] .done [] ∧ t.loop = s.loop
          ∧ s.ZoneHandedOn t z))
  ∧ ∀ (s : State) (c d : Byte), s.hears 1 [c] → s.service.request = none → c.toNat / 16 = d.toNat / 16 →
    exec (.readExposure [c]) s = exec (.readExposure [d]) s

/-- READ_EXPOSURE (R125): refused for a number outside 1 to 6; otherwise the exposure counter is answered as it stands
and set to 0, and nothing else of the zone changes, so a LATCHED zone stays LATCHED. A disabled zone is answered with
0. -/
def Obligations.ReadExposureClearsTheCounter : Prop :=
  ∀ (s : State) (c : Byte), s.hears 1 [c] → c.toNat % 16 = 0 →
    (c.toNat / 16 = 0 ∨ 6 < c.toNat / 16 →
      exec (.readExposure [c]) s = .next (s.refused 0x52 [c] .badParam))
    ∧ ∀ z : ZoneNo, c.toNat / 16 = z.val + 1 →
      exec (.readExposure [c]) s = .next { s with
        dust := s.dust.set z { s.dust.get z with exposure := 0 },
        service := s.answering s.notices 0x52 [c] .done [.num 2 (s.dust.get z).exposure], came := [] }
      ∧ ((s.dust.get z).record = none → s.CountersInRange →
        s.service.overrun = false → s.notices = [] → ∃ t, exec (.readExposure [c]) s = .next t
          ∧ t.service.reply = some ⟨[0, 4, 0x52, 0, 0, 0], 0⟩)

/-- The sample event of an enabled, mapped zone with no record pending (R117 to R119, R122). The latest sample, the
rise counts and, in HIGH, the exposure are taken; a confirmed level above the state is entered; otherwise a run of
samples below the falling level lowers WARN to CLEAR and HIGH to WARN, and any other sample ends the run. -/
def Obligations.DustBandsRiseAndFall : Prop :=
  ∀ (s : State) (z : ZoneNo) (h : Handed) (x : Half) (r : ZoneRecord) (level : Nat) (zn : Zone)
      (up : ZoneState),
    s.pins.porst = false → (s.waitingFor (.dust z)).head? = some h → h.value = some x →
    (s.dust.get z).pendingRecord = none → (s.dust.get z).record = some r →
    s.loop.maps (.dust z) = true →
    (s.dust.get z).state = .clear ∨ (s.dust.get z).state = .warn ∨ (s.dust.get z).state = .high →
    level = (if (s.dust.get z).state = .warn then r.warn - r.hysteresis else r.high - r.hysteresis) →
    zn = { s.dust.get z with
      latest := some x.toNat,
      warnCount := if r.warn ≤ x.toNat then min 50 ((s.dust.get z).warnCount + 1) else 0,
      highCount := if r.high ≤ x.toNat then min 50 ((s.dust.get z).highCount + 1) else 0,
      stopCount := if r.stop ≤ x.toNat then min 50 ((s.dust.get z).stopCount + 1) else 0,
      exposure := if (s.dust.get z).state = .high then min 65535 ((s.dust.get z).exposure + 1)
        else (s.dust.get z).exposure } →
    zn.exposure < r.threshold →
    up = (if r.rise ≤ zn.stopCount then .stop else if r.rise ≤ zn.highCount then .high
      else if r.rise ≤ zn.warnCount then .warn else .clear) →
    (zn.state.rank < up.rank → ∃ t, exec (.dustRise z) s = .next t
      ∧ t.dust.get z = { zn with state := up, fallCount := 0, purgeTimer := none }
      ∧ t.loop = (s.taken (.dust z)).loop ∧ t.service = s.service ∧ s.ZoneHandedOn t z)
    ∧ (up.rank ≤ zn.state.rank → zn.state ≠ .clear → x.toNat < level →
      (r.fall ≤ zn.fallCount + 1 → ∃ t, exec (.dustFall z) s = .next t
        ∧ t.dust.get z = { zn with
            state := if zn.state = .warn then .clear else .warn, fallCount := 0, purgeTimer := none }
        ∧ t.loop = (s.taken (.dust z)).loop ∧ t.service = s.service ∧ s.ZoneHandedOn t z)
      ∧ (zn.fallCount + 1 < r.fall → ∃ t, exec (.dustSample z) s = .next t
        ∧ t.dust.get z = { zn with fallCount := zn.fallCount + 1 }
        ∧ t.loop = (s.taken (.dust z)).loop ∧ t.service = s.service ∧ s.ZoneHandedOn t z))
    ∧ (up.rank ≤ zn.state.rank → zn.state = .clear ∨ level ≤ x.toNat → ∃ t,
      exec (.dustSample z) s = .next t
        ∧ t.dust.get z = { zn with fallCount := if zn.state = .clear then zn.fallCount else 0 }
        ∧ t.loop = (s.taken (.dust z)).loop ∧ t.service = s.service ∧ s.ZoneHandedOn t z)

/-- The rest of a zone's sample event (R115, R117, R120 to R123, R126, R127). A pending record takes force at its start:
disabling clears the zone; a record for an enabled zone is judged from this event on, with the rise and fall counts at 0;
a zone it enables begins in CLEAR with nothing counted, in LOST where its binding is LOST. An enabled zone whose binding
is newly lost or unmapped is LOST. An event without a value leaves the zone as it is, but for the latch. A sample is
taken into the latest sample, the counts and the exposure: PURGE and LATCHED stay, STOP falls into PURGE, LOST returns
into PURGE, a purge time of 0 expiring at once, and an exposure at the threshold latches. -/
def Obligations.DustStopsLatchesAndReturns : Prop :=
  ∀ (s : State) (z : ZoneNo) (h : Handed), s.pins.porst = false →
    (s.waitingFor (.dust z)).head? = some h →
    ((s.dust.get z).pendingRecord = some none → ∃ t, exec (.dustSample z) s = .next t
      ∧ t.dust.get z = Zone.restart ∧ t.loop = (s.taken (.dust z)).loop ∧ s.ZoneHandedOn t z)
    ∧ (∀ r, (s.dust.get z).pendingRecord = some (some r) →
      ((s.dust.get z).record ≠ none → exec (.dustSample z) s = exec (.dustSample z) { s with
        dust := s.dust.set z { s.dust.get z with
          record := some r, pendingRecord := none, warnCount := 0, highCount := 0, stopCount := 0,
          fallCount := 0 } })
      ∧ ((s.dust.get z).record = none →
        (h ≠ .lost → exec (.dustSample z) s = exec (.dustSample z) { s with
          dust := s.dust.set z { Zone.restart with record := some r } })
        ∧ (h = .lost → ∃ t, exec (.dustSample z) s = .next t
          ∧ t.dust.get z = { Zone.restart with record := some r, state := .lost }
          ∧ t.loop = (s.taken (.dust z)).loop ∧ s.ZoneHandedOn t z)))
    ∧ ∀ r, (s.dust.get z).pendingRecord = none → (s.dust.get z).record = some r →
      (h = .newlyLost ∨ s.loop.maps (.dust z) = false → ∃ t, exec (.dustSample z) s = .next t
        ∧ t.dust.get z = (if (s.dust.get z).state = .lost then s.dust.get z else { s.dust.get z with
            state := .lost, warnCount := 0, highCount := 0, stopCount := 0, fallCount := 0,
            purgeTimer := none })
        ∧ t.loop = (s.taken (.dust z)).loop ∧ s.ZoneHandedOn t z)
      ∧ (h = .notFresh ∨ h = .lost → s.loop.maps (.dust z) = true →
        ((s.dust.get z).state = .latched ∨ (s.dust.get z).state = .lost
            ∨ (s.dust.get z).exposure < r.threshold → ∃ t, exec (.dustSample z) s = .next t
          ∧ t.dust = s.dust ∧ t.loop = (s.taken (.dust z)).loop ∧ s.ZoneHandedOn t z)
        ∧ ((s.dust.get z).state ≠ .latched → (s.dust.get z).state ≠ .lost →
          r.threshold ≤ (s.dust.get z).exposure → ∃ t, exec (.dustLatch z) s = .next t
            ∧ t.dust.get z = { s.dust.get z with state := .latched, fallCount := 0, purgeTimer := none }
            ∧ t.loop = (s.taken (.dust z)).loop ∧ s.ZoneHandedOn t z))
      ∧ ∀ x zn, h.value = some x → s.loop.maps (.dust z) = true → zn = (s.dust.get z).having r x.toNat →
        (zn.state = .purge ∨ zn.state = .latched → zn.state = .latched ∨ zn.exposure < r.threshold →
          ∃ t, exec (.dustSample z) s = .next t ∧ t.dust.get z = zn
            ∧ t.loop = (s.taken (.dust z)).loop ∧ s.ZoneHandedOn t z)
        ∧ (zn.state = .stop → zn.exposure < r.threshold →
          (r.stop - r.hysteresis ≤ x.toNat ∨ zn.fallCount + 1 < r.fall → ∃ t,
            exec (.dustSample z) s = .next t
              ∧ t.dust.get z = { zn with
                  fallCount := if r.stop - r.hysteresis ≤ x.toNat then 0 else zn.fallCount + 1 }
              ∧ t.loop = (s.taken (.dust z)).loop ∧ s.ZoneHandedOn t z)
          ∧ (x.toNat < r.stop - r.hysteresis → r.fall ≤ zn.fallCount + 1 → ∃ t,
            exec (.dustStopFall z) s = .next t ∧ t.dust.get z = zn.purged r x.toNat
              ∧ t.loop = (s.taken (.dust z)).loop ∧ s.ZoneHandedOn t z))
        ∧ (zn.state = .lost → zn.exposure < r.threshold → ∃ t, exec (.dustReturn z) s = .next t
          ∧ t.dust.get z = zn.purged r x.toNat
          ∧ t.loop = (s.taken (.dust z)).loop ∧ s.ZoneHandedOn t z)
        ∧ (zn.state ≠ .latched → r.threshold ≤ zn.exposure → ∃ t, exec (.dustLatch z) s = .next t
          ∧ t.dust.get z = { zn with state := .latched, fallCount := 0, purgeTimer := none }
          ∧ t.gate.stopSet.has (.dust z) = true
          ∧ t.loop = (s.taken (.dust z)).loop ∧ s.ZoneHandedOn t z)

/-- The purge timer (R121) falls by 1 at each of its events while it runs above 1; at 1 the purge expires into the
highest state whose level, lowered by the hysteresis, the latest sample still reaches. With no timer running nothing
happens to the zone. -/
def Obligations.PurgeTimerRunsOut : Prop :=
  ∀ (s : State) (z : ZoneNo), s.pins.porst = false →
    (∀ r n, (s.dust.get z).record = some r → (s.dust.get z).purgeTimer = some n →
      (1 < n → ∃ t, exec (.purgeTimerTick z) s = .next t
        ∧ t.dust.get z = { s.dust.get z with purgeTimer := some (n - 1) }
        ∧ t.loop = s.loop ∧ t.service = s.service ∧ s.ZoneHandedOn t z)
      ∧ ∀ x, n ≤ 1 → (s.dust.get z).latest = some x → ∃ t, exec (.purgeExpiry z) s = .next t
        ∧ t.dust.get z = { s.dust.get z with
            purgeTimer := none, fallCount := 0,
            state := if r.stop - r.hysteresis ≤ x then .stop
              else if r.high - r.hysteresis ≤ x then .high
              else if r.warn - r.hysteresis ≤ x then .warn else .clear }
        ∧ t.loop = s.loop ∧ t.service = s.service ∧ s.ZoneHandedOn t z)
    ∧ ((s.dust.get z).purgeTimer = none → ∃ t, exec (.purgeTimerTick z) s = .next t
      ∧ t.dust = s.dust ∧ t.loop = s.loop ∧ t.service = s.service ∧ s.ZoneHandedOn t z)

/-! ### Feed gate and interlock contacts (chapter 7) -/

/-- LOAD_CONTACT (R141) and ACK_CONTACT (R146). LOAD_CONTACT is refused outside SETUP and for an entry, a debounce
count or a doubled role that R140 does not allow; accepted, an input whose entry is the same keeps its state, an UNUSED
one is released, and any other starts in its role's fail-safe state with a fail-safe hold; SWAY and HATCH are judged
against the new table, and the latch without a PULL_CORD input is cleared. A PULL_CORD input that so becomes ACTIVE
sets the latch and raises PULL_CORD, with its notice (R145): that an input new to the role was RELEASED before is the
model's choice (DESIGN CHOICE, log 17). The tip contact flag follows the TIP_CONTACT input (R101), and, no change being
measured, no hold changes. ACK_CONTACT clears the latch and PULL_CORD once the input is released. -/
def Obligations.ContactTableAndAcknowledgement : Prop :=
  (∀ (s : State) (p : List Byte) (v : List Int), s.hears 25 p → v = readParams contactKinds p →
    (s.modes.mode ≠ .setup → exec (.loadContact p) s = .next (s.refused 0x61 p .wrongMode))
    ∧ (s.modes.mode = .setup → (∃ i, readEntry v i = none) ∨ paramNat v 48 = 0 ∨ 32 < paramNat v 48
        ∨ (∃ i j r x y, i ≠ j ∧ r ≠ .unused ∧ readEntry v i = some (r, x)
          ∧ readEntry v j = some (r, y)) →
      exec (.loadContact p) s = .next (s.refused 0x61 p .badParam))
    ∧ ∀ entry : InputNo → ContactRole × Bool, s.modes.mode = .setup →
      (∀ i, readEntry v i = some (entry i)) → 1 ≤ paramNat v 48 → paramNat v 48 ≤ 32 →
      (∀ i j, i ≠ j → (entry i).1 = (entry j).1 → (entry i).1 = .unused) →
      ∃ t, exec (.loadContact p) s = .next t
        ∧ t.contacts.debounce = some (paramNat v 48)
        ∧ (∀ i, t.contacts.inputs.get i =
          let old := s.contacts.inputs.get i
          let role := (entry i).1
          if old.role = role ∧ old.activeLow = (entry i).2 then { old with counter := 0 }
          else if role = .unused then ⟨.unused, (entry i).2, false, 0, false⟩
          else ⟨role, (entry i).2, decide (role = .pullCord ∨ role = .beltSway ∨ role = .tipContact), 0,
            true⟩)
        ∧ t.contacts.raw = s.contacts.raw ∧ t.contacts.sampleTaken = s.contacts.sampleTaken
        ∧ t.contacts.lost = s.contacts.lost
        ∧ t.swayAgrees ∧ t.hatchAgrees
        ∧ ((∀ i, (entry i).1 ≠ .pullCord) →
          t.contacts.latch = false ∧ t.gate.stopSet.has .pullCord = false)
        ∧ (∀ i, (entry i).1 = .pullCord →
          let old := s.contacts.inputs.get i
          if old.role = .pullCord ∧ (old.activeLow = (entry i).2 ∨ old.active = true) then
            t.contacts.latch = s.contacts.latch
              ∧ t.gate.stopSet.has .pullCord = s.gate.stopSet.has .pullCord
          else t.contacts.latch = true ∧ t.gate.stopSet.has .pullCord = true
            ∧ (t.gate.stopSet.has .sway = s.gate.stopSet.has .sway →
              t.gate.stopSet.has .hatch = s.gate.stopSet.has .hatch → t.announces (.contact .pullCord)))
        ∧ (s.ContactsAgree → t.ContactsAgree) ∧ t.holds = s.holds
        ∧ t.service = s.answering t.notices 0x61 p .done [] ∧ t.loop = s.loop ∧ t.dust = s.dust
        ∧ t.modes = s.modes ∧ t.pins = s.pins)
  ∧ ∀ s : State, s.hears 0 [] →
    (s.contacts.latch = false → exec (.ackContact []) s = .next (s.refused 0x62 [] .wrongState))
    ∧ (s.contacts.latch = true → s.contacts.cordActive = true →
      exec (.ackContact []) s = .next (s.refused 0x62 [] .contactActive))
    ∧ (s.contacts.latch = true → s.contacts.cordActive = false → ∃ t, exec (.ackContact []) s = .next t
      ∧ t.contacts = { s.contacts with latch := false } ∧ t.gate.stopSet.has .pullCord = false
      ∧ t.service = s.answering t.notices 0x62 [] .done []
      ∧ (s.plan.state ≠ .interrupted → s.posted t (.contact .latchCleared) ∧ t = { s with
          contacts := t.contacts, notices := t.notices, service := t.service, came := [],
          gate := { s.gate with stopSet := s.gate.stopSet.remove .pullCord } }))

/-- CONTACTS_SAMPLE and the debouncing (R142, R143, R145). A sample's raw data are recorded, and are then the data
taken since the last restart (R139). Every assigned input whose raw state differs from its accepted one counts the
sample, and at the debounce count takes the raw state, which ends a fail-safe hold; an equal sample clears its counter.
The binding's loss puts every assigned input in its fail-safe state under a fail-safe hold, and leaves the raw data. A
PULL_CORD input that becomes ACTIVE, by debounce or by the loss, sets the latch and raises PULL_CORD. A BELT_SWAY input
that changes gives SWAY (R147), and a HATCH_OPEN input of the active step's hold gives HATCH (R148). The tip contact
follows its input; a measured change to active over a hold records the hold's measured offset, the tip's height above
floor and fill within the hold's depth, with the notice SURFACE_FOUND (R110), and no other change touches the holds,
nor does one over no hold or without a TIP_CONTACT input (R55, R101, R102). The CONTACT notice that the event leaves is
the last of CONTACTS_LOST or CONTACTS_RETURNED, PULL_CORD, the one of SWAY and HATCH_CLOSED (R149). -/
def Obligations.ContactsAreDebounced : Prop :=
  ∀ (s : State) (h : Handed), s.pins.porst = false → (s.waitingFor .contacts).head? = some h →
    (∀ x, h.value = some x → ∃ t, exec .contactsSample s = .next t
      ∧ t.contacts.raw = some x ∧ t.contacts.sampleTaken = true
      ∧ t.contacts.debounce = s.contacts.debounce
      ∧ t.contacts.lost = (s.contacts.lost && !decide (h = .returned x))
      ∧ (∀ i, t.contacts.inputs.get i =
        let old := s.contacts.inputs.get i
        let raw := (x.getLsbD i.val != old.activeLow)
        if old.role = .unused then old
        else if raw = old.active then { old with counter := 0 }
        else if (s.contacts.debounce.getD 1) ≤ old.counter + 1 then
          { old with active := raw, counter := 0, failSafeHold := false }
        else { old with counter := old.counter + 1 })
      ∧ (∀ i, (t.contacts.inputs.get i).role = .pullCord → (t.contacts.inputs.get i).active = true →
        (s.contacts.inputs.get i).active = false →
        t.contacts.latch = true ∧ t.gate.stopSet.has .pullCord = true)
      ∧ s.contactsFollow t
      ∧ ((∀ i, (s.contacts.inputs.get i).role ≠ .tipContact) → t.holds = s.holds)
      ∧ ((∀ g, t.spout.position ≠ .over g) → t.holds = s.holds)
      ∧ (∀ i, (s.contacts.inputs.get i).role = .tipContact →
        (∀ j, (s.contacts.inputs.get j).role = .tipContact → j = i) →
        (t.contacts.inputs.get i).active = false ∨ (s.contacts.inputs.get i).active = true
          ∨ (s.contacts.inputs.get i).failSafeHold = true → t.holds = s.holds)
      ∧ (∀ i g r tip, (s.contacts.inputs.get i).role = .tipContact →
        (∀ j, (s.contacts.inputs.get j).role = .tipContact → j = i) →
        (t.contacts.inputs.get i).active = true → (s.contacts.inputs.get i).active = false →
        (s.contacts.inputs.get i).failSafeHold = false → t.spout.position = .over g →
        s.spout.drop.accepted = some tip → s.holds.holds.get g = some r →
        ∃ r', t.holds = { s.holds with holds := s.holds.holds.set g (some r') }
          ∧ r'.offset = some (max 0 (min (r.static.depth : Int) (tip - r.floor - r.fill))).toNat
          ∧ t.announces (.spout (.surfaceFound g (r'.offset.getD 0)))
          ∧ r' = { r with offset := r'.offset, floor := r'.floor, coamingTop := r'.coamingTop,
                          fill := r'.fill, surface := r'.surface })
      ∧ s.ContactsTold t (if h = .returned x then some .contactsReturned else none)
      ∧ t.loop = (s.taken .contacts).loop ∧ t.dust = s.dust ∧ s.keepsDesk t)
    ∧ (∀ x i, h.value = some x → (s.contacts.inputs.get i).role ≠ .unused →
      (x.getLsbD i.val != (s.contacts.inputs.get i).activeLow) ≠ (s.contacts.inputs.get i).active →
      s.contacts.debounce.getD 1 ≤ (s.contacts.inputs.get i).counter + 1 →
      ∃ t, exec (.contactDebounceChange i) s = .next t
        ∧ (t.contacts.inputs.get i).active = !(s.contacts.inputs.get i).active
        ∧ (t.contacts.inputs.get i).counter = 0 ∧ (t.contacts.inputs.get i).failSafeHold = false
        ∧ t.dust = s.dust ∧ s.keepsDesk t)
    ∧ (h = .newlyLost → ∃ t, exec .contactsSample s = .next t
      ∧ t.contacts.lost = true ∧ t.contacts.raw = s.contacts.raw
      ∧ t.contacts.sampleTaken = s.contacts.sampleTaken
      ∧ (∀ i, t.contacts.inputs.get i =
        let old := s.contacts.inputs.get i
        if old.role = .unused then old
        else { old with
          active := decide (old.role = .pullCord ∨ old.role = .beltSway ∨ old.role = .tipContact),
          counter := 0, failSafeHold := true })
      ∧ (∀ i, (s.contacts.inputs.get i).role = .pullCord → (s.contacts.inputs.get i).active = false →
        t.contacts.latch = true ∧ t.gate.stopSet.has .pullCord = true)
      ∧ s.contactsFollow t ∧ t.holds = s.holds ∧ s.ContactsTold t (some .contactsLost)
      ∧ t.loop = (s.taken .contacts).loop ∧ t.dust = s.dust ∧ s.keepsDesk t)
    ∧ (h = .notFresh ∨ h = .lost →
      exec .contactsSample s = .next { s with loop := (s.taken .contacts).loop, came := [] })

/-- The gate position (R138): a value is held, at most 1000; a returned one ends the loss and clears GATE_FEEDBACK; the
loss keeps the value and raises GATE_FEEDBACK. The two tell GATE_RETURNED and GATE_LOST (R149). Outside STOPPING a
fresh value does nothing else. -/
def Obligations.GatePositionIsHeld : Prop :=
  ∀ (s : State) (h : Handed), s.pins.porst = false → (s.waitingFor .gatePos).head? = some h →
    (∀ x, h = .fresh x → (∀ c, s.plan.state ≠ .stopping c) → exec .gatePosSample s = .next { s with
      gate := { s.gate with position := some (min 1000 x.toNat) },
      loop := (s.taken .gatePos).loop, came := [] })
    ∧ (∀ x, h = .returned x → ∃ t, exec .gatePosSample s = .next t
      ∧ t.gate.position = some (min 1000 x.toNat) ∧ t.gate.positionLost = false
      ∧ t.gate.stopSet.has .gateFeedback = false ∧ t.announces (.contact .gateReturned)
      ∧ t.loop = (s.taken .gatePos).loop ∧ t.weigher.zeroCal = s.weigher.zeroCal ∧ s.keepsRest t)
    ∧ (h = .newlyLost → ∃ t, exec .gatePosSample s = .next t
      ∧ t.gate.position = s.gate.position ∧ t.gate.positionLost = true
      ∧ t.gate.stopSet.has .gateFeedback = true ∧ t.announces (.contact .gateLost)
      ∧ t.loop = (s.taken .gatePos).loop ∧ t.queue = s.queue ∧ s.keepsRest t)
    ∧ (h = .notFresh ∨ h = .lost →
      exec .gatePosSample s = .next { s with loop := (s.taken .gatePos).loop, came := [] })

/-- The gate opens only when every owner agrees (R137, R190): an opening above 0 is at most 1000 and at most every cap
in force, and, where the stop reasons agree with their owners, it means LOADING, the loop in RUN, a plan that pours
over a ready spout, a level deck, no zone that stops, the cord, the belt, the hatch and the sensors in order, and no
calibration. -/
def Obligations.GateOpensOnlyWhenAllAgree : Prop :=
  ∀ s : State, s.gate.opening ≠ 0 →
    s.gate.opening ≤ 1000 ∧ s.gate.opening ≤ s.gate.commandCap
    ∧ (∀ z k, s.gate.highCaps.get z = some k → s.gate.opening ≤ k)
    ∧ (∀ k, s.gate.dropCap = some k → s.gate.opening ≤ k)
    ∧ (∀ k, s.gate.topUpCap = some k → s.gate.opening ≤ k)
    ∧ (s.ReasonsAgree → s.ContactReasonsAgree →
      s.modes.mode = .loading ∧ s.loop.state = .run ∧ s.plan.state = .pouring
      ∧ s.spoutReady = true ∧ s.spout.tipContact = false
      ∧ s.holds.established = true ∧ s.holds.foreLost = false ∧ s.holds.aftLost = false
      ∧ (∀ z, (s.dust.get z).state = .clear ∨ (s.dust.get z).state = .warn
        ∨ (s.dust.get z).state = .high)
      ∧ s.contacts.latch = false ∧ s.contacts.swayActive = false
      ∧ (∀ st, s.plan.active = some st → s.contacts.hatchOpen st.hold = true)
      ∧ s.weigher.scaleLost = false ∧ s.weigher.tracker ≠ .lost ∧ s.weigher.zeroCal.running = false
      ∧ s.gate.positionLost = false)

/-! ### Tonnage bills (chapter 8) -/

/-- OPEN_LOT (R157) and CLOSE_BILL (R158). OPEN_LOT is refused for a density outside 300 to 1,200, an identifier that
a record holds and a store with no FREE record; accepted, the lowest FREE record becomes OPEN with every figure 0.
CLOSE_BILL is refused for a number outside 1 to 12, a record that is not OPEN, one with mass in transit and one that a
step to do names; accepted, the record becomes CLOSED with the totalizer. The lower four bits of the character of
CLOSE_BILL and of RELEASE_BILL are not read (DESIGN CHOICE, log 27). -/
def Obligations.BillsAreOpenedAndClosed : Prop :=
  (∀ (s : State) (p : List Byte) (id density : Nat), s.hears 7 p → id = natOfChars (p.take 4) →
    density = natOfChars (p.drop 5) →
    (density < 300 ∨ 1200 < density → exec (.openLot p) s = .next (s.refused 0x70 p .badParam))
    ∧ (300 ≤ density → density ≤ 1200 →
      ((∃ n l, (s.bills.records.get n).lot? = some l ∧ l.identifier = BitVec.ofNat 32 id) →
        exec (.openLot p) s = .next (s.refused 0x70 p .duplicate))
      ∧ ((∀ n l, (s.bills.records.get n).lot? = some l → l.identifier ≠ BitVec.ofNat 32 id) →
        ((∀ n, s.bills.records.get n ≠ .free) →
          exec (.openLot p) s = .next (s.refused 0x70 p .storeFull))
        ∧ ∀ n, s.bills.records.get n = .free → (∀ m < n, s.bills.records.get m ≠ .free) →
          ∃ t, exec (.openLot p) s = .next t ∧ s.posted t (.bill n .opened)
            ∧ t = { s with
              bills := { s.bills with records := s.bills.records.set n (.opened
                ⟨BitVec.ofNat 32 id, p.getD 4 0, density, 0, 0, 0, 0, [], s.bills.totalizer, 0, 0⟩) },
              notices := t.notices, came := [],
              service := s.answering t.notices 0x70 p .done [.small (n.val + 1)] })))
  ∧ (∀ (s : State) (c : Byte), s.hears 1 [c] →
    (c.toNat / 16 = 0 ∨ 12 < c.toNat / 16 →
      exec (.closeBill [c]) s = .next (s.refused 0x71 [c] .badParam))
    ∧ ∀ n : BillNo, c.toNat / 16 = n.val + 1 →
      ((∀ l, s.bills.records.get n ≠ .opened l) →
        exec (.closeBill [c]) s = .next (s.refused 0x71 [c] .wrongState))
      ∧ ∀ l, s.bills.records.get n = .opened l →
        (l.inTransit ≠ 0 → exec (.closeBill [c]) s = .next (s.refused 0x71 [c] .lotInTransit))
        ∧ (l.inTransit = 0 →
          (∃ st ∈ s.plan.steps, st.bill = n ∧ (st.state = .pending ∨ st.state = .active)) →
          exec (.closeBill [c]) s = .next (s.refused 0x71 [c] .lotPlanned))
        ∧ (l.inTransit = 0 →
          (∀ st ∈ s.plan.steps, st.bill = n → st.state ≠ .pending ∧ st.state ≠ .active) →
          ∃ t, exec (.closeBill [c]) s = .next t ∧ s.posted t (.bill n .closed) ∧ t = { s with
            bills := { s.bills with records := s.bills.records.set n (.closed l s.bills.totalizer) },
            notices := t.notices, service := s.answering t.notices 0x71 [c] .done [], came := [] }))
  ∧ ∀ (s : State) (c d : Byte), s.hears 1 [c] → s.service.request = none → c.toNat / 16 = d.toNat / 16 →
    exec (.releaseBill [c]) s = exec (.releaseBill [d]) s

/-- RELEASE_BILL (R159): refused with BAD_PARAM for a number outside 1 to 12 and with WRONG_STATE for a record that is
not CLOSED; otherwise the record becomes FREE, DONE is answered and a BILL notice RELEASED is raised. The mode plays
no part. -/
def Obligations.ReleaseBillFreesTheRecord : Prop :=
  ∀ (s : State) (c : Byte), s.hears 1 [c] → c.toNat % 16 = 0 →
    (c.toNat / 16 = 0 ∨ 12 < c.toNat / 16 →
      exec (.releaseBill [c]) s = .next (s.refused 0x72 [c] .badParam))
    ∧ ∀ n : BillNo, c.toNat / 16 = n.val + 1 →
      ((∀ l k, s.bills.records.get n ≠ .closed l k) →
        exec (.releaseBill [c]) s = .next (s.refused 0x72 [c] .wrongState))
      ∧ ∀ l k, s.bills.records.get n = .closed l k →
        ∃ t, exec (.releaseBill [c]) s = .next t ∧ s.posted t (.bill n .released) ∧ t = { s with
          bills := { s.bills with records := s.bills.records.set n .free },
          notices := t.notices, service := s.answering t.notices 0x72 [c] .done [], came := [] }

/-! ### Quay loop traffic (chapter 9) -/

/-- LOAD_SLOT (R170) and LOAD_LOOP (R168). LOAD_SLOT is refused outside SETUP, for a slot, a kind, a binding or a
stale limit out of range and for a binding that stands in another slot; accepted, the slot takes its entry: a binding
already there keeps its record under the new limit, a new one starts with an empty record, whose age is the limit
where the binding is LOST. LOAD_LOOP replaces the quality threshold, and LOOP_QUALITY is raised where the count
reaches it. The lower four bits of the character of the slot's kind are not read (DESIGN CHOICE, log 27). -/
def Obligations.SlotMapAndThresholdAreLoaded : Prop :=
  (∀ (s : State) (a b c d : Byte), s.hears 4 [a, b, c, d] →
    (s.modes.mode ≠ .setup →
      exec (.loadSlot [a, b, c, d]) s = .next (s.refused 0x80 [a, b, c, d] .wrongMode))
    ∧ (s.modes.mode = .setup → 40 ≤ a.toNat ∨ 2 < b.toNat / 16
        ∨ (b.toNat / 16 = 1 ∧ (c.toNat = 0 ∨ 15 < c.toNat ∨ d.toNat = 0))
        ∨ (b.toNat / 16 = 2 ∧ (c.toNat < 16 ∨ 19 < c.toNat ∨ d.toNat = 0)) →
      exec (.loadSlot [a, b, c, d]) s = .next (s.refused 0x80 [a, b, c, d] .badParam))
    ∧ ∀ i : SlotNo, s.modes.mode = .setup → a.toNat = i.val →
      (b.toNat / 16 = 0 → exec (.loadSlot [a, b, c, d]) s = .next { s with
        loop := { s.loop with slots := s.loop.slots.set i .unused },
        service := s.answering s.notices 0x80 [a, b, c, d] .done [], came := [] })
      ∧ (∀ x : SampleBinding, b.toNat / 16 = 1 → c.toNat = sampleNumber x → 1 ≤ d.toNat →
        exec (.loadSlot [a, b, c, d]) s = .next (
          match s.loop.slotOf x, s.loop.slots.get i with
          | none, _ => { s with
              loop := { s.loop with slots := s.loop.slots.set i (.sample x d.toNat
                ⟨if s.loop.isLost x = true then d.toNat else 0, none, none⟩) },
              service := s.answering s.notices 0x80 [a, b, c, d] .done [], came := [] }
          | some j, .sample _ _ r =>
            if j = i then { s with
              loop := { s.loop with slots := s.loop.slots.set i (.sample x d.toNat r) },
              service := s.answering s.notices 0x80 [a, b, c, d] .done [], came := [] }
            else s.refused 0x80 [a, b, c, d] .duplicate
          | some _, _ => s.refused 0x80 [a, b, c, d] .duplicate))
      ∧ (∀ x : CommandBinding, b.toNat / 16 = 2 → c.toNat = commandNumber x → 1 ≤ d.toNat →
        exec (.loadSlot [a, b, c, d]) s = .next (
          match s.loop.commandSlotOf x, s.loop.slots.get i with
          | none, _ => { s with
              loop := { s.loop with slots := s.loop.slots.set i (.command x d.toNat
                ⟨0, none, none⟩ ⟨false, 0, false⟩) },
              service := s.answering s.notices 0x80 [a, b, c, d] .done [], came := [] }
          | some j, .command _ _ r k =>
            if j = i then { s with
              loop := { s.loop with slots := s.loop.slots.set i (.command x d.toNat r k) },
              service := s.answering s.notices 0x80 [a, b, c, d] .done [], came := [] }
            else s.refused 0x80 [a, b, c, d] .duplicate
          | some _, _ => s.refused 0x80 [a, b, c, d] .duplicate)))
  ∧ ∀ (s : State) (c : Byte), s.hears 1 [c] →
    (c.toNat = 0 ∨ 200 < c.toNat → exec (.loadLoop [c]) s = .next (s.refused 0x81 [c] .badParam))
    ∧ (1 ≤ c.toNat → c.toNat ≤ 200 → ∃ t, exec (.loadLoop [c]) s = .next t
      ∧ t.loop = { s.loop with threshold := c.toNat }
      ∧ t.qualityLow = (s.qualityLow || decide (c.toNat ≤ s.loop.windowCount))
      ∧ t.service = s.answering t.notices 0x81 [c] .done [] ∧ s.keepsRest t
      ∧ (t.qualityLow = s.qualityLow → t = { s with
          loop := t.loop, service := t.service, came := [] }))

/-- A frame with good sync in RUN (R165, R167, R171, R173). A good frame gives every mapped slot whose V is set and
whose T has moved its value, with age 0; every other mapped slot ages, and keeps its value. Every sample binding is
handed on to its owner: fresh, or returned where it was LOST, which ends the loss; not fresh, newly LOST at its stale
limit, or LOST; an unmapped one as not fresh (R170). A command slot is taken over at its stale limit and released by a
fresh value, which COMMAND_STALE and COMMAND_RESUMED tell (R177), and the frame waits with the command bindings that it
brought fresh; that the notice of the last slot is the one left is the model's choice (DESIGN CHOICE, log 35). The
missed count is 0 (R166), the window advances, the service unit takes the two characters one after the other (R180 to
R183), a reply that the first position of the frame ends counting as sent for the second, and the frame waits to be
formed. That whether a reply may be sent in it is settled as it arrives, and that the second position finds a reply
sent that ends at the first, is the model's choice (DESIGN CHOICE, log 23); and so is that a message that completes
while a request still waits in the request buffer is discarded for overrun (DESIGN CHOICE, log 5). -/
def Obligations.FrameInRunJudgesTheSlots : Prop :=
  ∀ (s : State) (f : Frame), s.pins.porst = false → s.loop.state = .run → f.sync = 0x1F35#16 →
    ∃ t w, exec (.loopPeriodEvent f) s = .next t
      ∧ (∀ i, t.loop.slots.get i =
        let x := f.slots.get i
        let after := fun (r : Freshness) => if r.broughtBy f i = true then ⟨0, some x.t, some x.data⟩
          else { r with age := min 255 (r.age + 1) }
        match s.loop.slots.get i with
        | .unused => .unused
        | .sample b limit r => .sample b limit (after r)
        | .command b limit r c => .command b limit (after r) { c with
            takenOver := !r.broughtBy f i && (c.takenOver || decide (limit ≤ min 255 (r.age + 1))) })
      ∧ s.HandsOn t (fun i r => if r.broughtBy f i = true then some (f.slots.get i).data else none)
      ∧ (∀ b, b ∈ w.fresh ↔
        ∃ i limit r c, s.loop.slots.get i = .command b limit r c ∧ r.broughtBy f i = true)
      ∧ t.loop.missedCount = 0 ∧ t.loop.state = .run
      ∧ t.loop.windowPosition = (if s.loop.windowPosition + 1 < 200 then s.loop.windowPosition + 1 else 0)
      ∧ t.loop.windowCount = (if s.loop.windowPosition + 1 < 200 then
          s.loop.windowCount + (if f.check = frameCheck f then 0 else 1) else 0)
      ∧ t.loop.toForm = s.loop.toForm ++ [w] ∧ w.frame = f ∧ w.good = decide (f.check = frameCheck f)
      ∧ w.replyOk = s.service.reply.isSome
      ∧ t.service = (s.service.takeChars f (decide (f.check = frameCheck f))).1
      ∧ (∃ between, s.service.Receives between (decide (f.check = frameCheck f)) s.service.reply.isSome
          f.char1 w.blank1
        ∧ between.Receives t.service (decide (f.check = frameCheck f))
          (s.service.reply.any (fun r => !(decide (f.check = frameCheck f) && !f.char1.p
            && decide (r.chars.length ≤ r.sent + 1)))) f.char2 w.blank2)
      ∧ t.loop.loopOut = s.loop.loopOut
      ∧ (t.qualityLow = s.qualityLow →
        (∀ i e, (s.loop.slots.get i).loopEvent (·.broughtBy f i) = some e →
          (∀ j, i < j → (s.loop.slots.get j).loopEvent (·.broughtBy f j) = none) → t.tells (.loop e))
        ∧ ((∀ i, (s.loop.slots.get i).loopEvent (·.broughtBy f i) = none) → s.silent t .loop))
      ∧ t.weigher.heldRaw = s.weigher.heldRaw ∧ t.holds = s.holds ∧ t.contacts = s.contacts
      ∧ t.dust = s.dust ∧ t.modes = s.modes ∧ t.pins = s.pins ∧ t.pending = s.pending

/-- The expiry of the timebase (R165, R166, R174, R175). In RUN, before the third in a row, nothing leaves on loop-out
and the missed count rises. Outside RUN a substitute frame leaves, with the pattern as sync, the next frame count,
every command slot at 0 with its T moved, every other slot without V, idle characters and a good check; and in LOADING
the outage counter rises. That DOWN and PROVING are left for SEEKING at an expiry, by the line signal as it then
stands and by the lack of a good sync since the last one, is the model's reading (DEDUCED, log 22). Either way every
sample binding is handed on without a fresh value (R170, R171). -/
def Obligations.TimebaseExpirySendsASubstitute : Prop :=
  ∀ s : State, s.pins.porst = false →
    (s.loop.state = .run → s.loop.missedCount < 2 → ∃ t, exec .timebaseExpiry s = .next t
      ∧ t.loop.state = .run ∧ t.loop.missedCount = s.loop.missedCount + 1 ∧ t.loop.loopOut = none
      ∧ t.loop.outage = s.loop.outage ∧ t.service = s.service ∧ t.modes = s.modes
      ∧ s.HandsOn t (fun _ _ => none))
    ∧ (s.loop.state ≠ .run → s.modes.mode = .loading → s.loop.outage + 1 < 400 →
      ∃ t, exec .timebaseExpiry s = .next t ∧ t.loop.outage = s.loop.outage + 1)
    ∧ (s.loop.state ≠ .run → s.modes.mode ≠ .loading ∨ s.loop.outage + 1 < 400 →
      ∃ t out, exec .timebaseExpiry s = .next t ∧ t.loop.loopOut = some out
        ∧ out.sync = 0x1F35#16 ∧ out.frameCount = s.loop.lastFrameCount + 1
        ∧ t.loop.lastFrameCount = out.frameCount
        ∧ out.attention = !t.notices.isEmpty ∧ out.check = frameCheck out
        ∧ out.char1.p = false ∧ out.char2.p = false
        ∧ (∀ i, match s.loop.slots.get i with
          | .command b limit r c => out.slots.get i = ⟨true, !c.lastWrittenT, 0⟩
            ∧ ∃ k, t.loop.slots.get i = .command b limit { r with age := min 255 (r.age + 1) }
                ⟨k, 0, !c.lastWrittenT⟩
          | .sample b limit r => out.slots.get i = ⟨false, false, 0⟩
            ∧ t.loop.slots.get i = .sample b limit { r with age := min 255 (r.age + 1) }
          | .unused => out.slots.get i = ⟨false, false, 0⟩ ∧ t.loop.slots.get i = .unused)
        ∧ t.loop.state = (match s.loop.state with
          | .proving => if s.loop.syncSeen = true then .proving else .seeking
          | .down => if s.pins.lineSignal = true then .seeking else .down
          | st => st)
        ∧ (s.modes.mode ≠ .loading → t.loop.outage = s.loop.outage) ∧ s.HandsOn t (fun _ _ => none)
        ∧ t.service = s.service ∧ t.modes = s.modes ∧ t.dust = s.dust ∧ t.contacts = s.contacts)

/-- LOOP_RESTART (R175, R195): the 400th outage period in LOADING. The notice OUTAGE is raised (R177); the mode is
SUSPENDED, with MODE raised; a running calibration is aborted; the transit queue is emptied and the in-transit account
is 0; the lot tag is NONE; the tracker gives up its reference; the command cap and the gate position go; requests and
replies are dropped; a pour under way waits for PROCEED with a resume needed. Where the bills agree with the queue,
every OPEN bill's in-transit mass becomes unresolved and its restart count rises. The contacts are kept (R150), but
READ_GATE reports no raw data until the next sample (R139): that the two hold together so is the model's reading
(DEDUCED, log 40). R195 has no PART_RESET pending at this restart: that one which stands pending is neither taken nor
dropped with the reply is the model's choice (DESIGN CHOICE, log 39). -/
def Obligations.LoopRestartSuspendsThePart : Prop :=
  ∀ s : State, s.pins.porst = false → s.modes.mode = .loading → s.loop.state ≠ .run →
    400 ≤ s.loop.outage + 1 →
    ∃ t, exec .loopRestart s = .next t
      ∧ t.modes = { s.modes with mode := .suspended, lastRestart := .loopRestart }
      ∧ t.gate.stopSet.has .mode = true ∧ t.loop.outage = 0 ∧ t.announces (.loop .outage)
      ∧ t.weigher.zeroCal = (if s.weigher.zeroCal.running = true
          then { s.weigher.zeroCal with running := false, outcome := .zeroAborted } else s.weigher.zeroCal)
      ∧ t.queue = ⟨[], none, false⟩ ∧ t.weigher.account = { s.weigher.account with inTransit := 0 }
      ∧ t.weigher.tag = none
      ∧ t.weigher.tracker = (if s.weigher.tracker = .lost then .lost else .unarmed)
      ∧ t.weigher.implausible = 0 ∧ t.weigher.gap = 0 ∧ t.weigher.odometer = s.weigher.odometer
      ∧ t.gate.commandCap = 0 ∧ t.gate.position = none
      ∧ t.service = { s.service with receiver := .idle, request := none, reply := none }
      ∧ (s.plan.state.flowing = true → t.plan.state = .waitProceed
        ∧ ∀ st, s.plan.active = some st → ∃ st', t.plan.active = some st' ∧ st'.resumeNeeded = true
          ∧ st'.credited = st.credited)
      ∧ (s.plan.state.flowing = false → t.plan = s.plan)
      ∧ (s.BillsAgree → ∀ n l, s.bills.records.get n = .opened l → ∃ l', t.bills.records.get n = .opened l'
        ∧ l'.weighed = l.weighed ∧ l'.inTransit = 0 ∧ l'.unresolved = l.unresolved + l.inTransit
        ∧ l'.spill = l.spill ∧ l'.holds = l.holds ∧ l'.restarts = min 255 (l.restarts + 1))
      ∧ t.bills.totalizer = s.bills.totalizer ∧ t.dust = s.dust
      ∧ t.contacts = { s.contacts with sampleTaken := false } ∧ t.contacts.rawReported = none

/-- The line signal and the loss of RUN (R166, R182, R185). The lost signal leads to DOWN and the present one from DOWN
to SEEKING. Out of RUN, by the signal or by the third missed sync, LOOP is raised with the notice LOOP_LOST (R177), the
timebase runs free, and the receiver and the reply are dropped. That the frames taken and not yet formed are dropped
too is the model's choice (log 23). -/
def Obligations.LineSignalAndTheLossOfRun : Prop :=
  ∀ s : State, s.pins.porst = false →
    exec .lineSignalPresent s = .next { s with
      pins := { s.pins with lineSignal := true }, came := [],
      loop := { s.loop with state := if s.loop.state = .down then .seeking else s.loop.state } }
    ∧ (s.loop.state ≠ .run → exec .lineSignalLost s = .next { s with
      pins := { s.pins with lineSignal := false }, came := [], loop := { s.loop with state := .down } })
    ∧ (s.loop.state = .run → s.modes.partResetPending = false →
      ∃ t, exec .lineSignalLost s = .next t ∧ exec (.runLost .lineLost) s = .next t
        ∧ t.loop = { s.loop with state := .down, timebaseLocked := false, toForm := [] }
        ∧ t.gate.stopSet.has .loop = true ∧ t.announces (.loop .loopLost)
        ∧ t.service = { s.service with receiver := .idle, reply := none }
        ∧ t.pins = { s.pins with lineSignal := false } ∧ t.modes = s.modes ∧ t.queue = s.queue)
    ∧ (s.loop.state = .run → s.modes.partResetPending = false → s.loop.missedCount = 2 →
      ∃ t, exec (.runLost .missedSync) s = .next t
        ∧ t.loop.state = .seeking ∧ t.loop.timebaseLocked = false ∧ t.loop.toForm = []
        ∧ t.gate.stopSet.has .loop = true
        ∧ (s.loop.outage + 1 < 400 → t.service = { s.service with receiver := .idle, reply := none }
          ∧ t.modes = s.modes ∧ t.announces (.loop .loopLost)
          ∧ ∃ out, t.loop.loopOut = some out ∧ out.frameCount = s.loop.lastFrameCount + 1))

/-- A frame outside RUN judges the line (R166). A bad sync does nothing; in SEEKING a good sync leads to PROVING, and
in PROVING the frames with good checks in a row are counted; the eighth leads to RUN, with LOOP cleared, the timebase
locked and the counts of missed syncs, of the window and of the outage at 0; the proving count is then free within its
range (log 1). That a frame off its time moves SEEKING on, that a frame given in DOWN or RUN does nothing here, and
that a good sync is remembered until the next expiry, is the model's reading (DEDUCED, log 22). -/
def Obligations.EightGoodFramesLeadToRun : Prop :=
  ∀ (s : State) (f : Frame), s.pins.porst = false →
    (∀ onTime, f.sync ≠ 0x1F35#16 ∨ s.loop.state = .down ∨ s.loop.state = .run →
      exec (.frameArrivesOutsideRun f onTime) s = .next { s with came := [] })
    ∧ (∀ onTime, f.sync = 0x1F35#16 → s.loop.state = .seeking →
      exec (.frameArrivesOutsideRun f onTime) s = .next { s with
        loop := { s.loop with
          state := .proving, provingCount := if f.check = frameCheck f then 1 else 0, syncSeen := true },
        came := [] })
    ∧ (f.sync = 0x1F35#16 → s.loop.state = .proving →
      (f.check ≠ frameCheck f → exec (.frameArrivesOutsideRun f true) s = .next { s with
        loop := { s.loop with provingCount := 0, syncSeen := true }, came := [] })
      ∧ (f.check = frameCheck f → s.loop.provingCount < 7 →
        exec (.frameArrivesOutsideRun f true) s = .next { s with
          loop := { s.loop with provingCount := s.loop.provingCount + 1, syncSeen := true }, came := [] })
      ∧ (f.check = frameCheck f → s.loop.provingCount = 7 → ∃ t, exec (.provingComplete f) s = .next t
        ∧ t.loop = { s.loop with
            state := .run, provingCount := t.loop.provingCount, missedCount := 0, windowPosition := 0,
            windowCount := 0, outage := 0, timebaseLocked := true, syncSeen := true }
        ∧ t.loop.provingCount < 8 ∧ t.gate.stopSet.has .loop = false
        ∧ t.service = s.service ∧ t.modes = s.modes ∧ t.dust = s.dust ∧ t.contacts = s.contacts
        ∧ (s.plan.state ≠ .interrupted → s.posted t (.loop .loopRun) ∧ t.queue = s.queue
          ∧ t.plan = s.plan)))

/-- The error window (R167), and its notices QUALITY_LOW and QUALITY_OK (R177), which take the place of a slot's notice
of the same event by the model's choice (DESIGN CHOICE, log 41). A bad frame that brings the count to the threshold
raises LOOP_QUALITY; the frame that ends the window clears it where the count stayed below half the threshold, and
starts the next window at 0. -/
def Obligations.ErrorWindowGovernsLoopQuality : Prop :=
  ∀ (s : State) (f : Frame), s.pins.porst = false → s.loop.state = .run → f.sync = 0x1F35#16 →
    (f.check ≠ frameCheck f → s.loop.threshold ≤ s.loop.windowCount + 1 → s.qualityLow = false →
      s.loop.windowPosition < 199 → ∃ t, exec (.qualityLow f) s = .next t
        ∧ t.qualityLow = true ∧ t.announces (.loop .qualityLow) ∧ t.loop.windowCount = s.loop.windowCount + 1
        ∧ t.loop.windowPosition = s.loop.windowPosition + 1 ∧ t.modes = s.modes ∧ t.dust = s.dust)
    ∧ (199 ≤ s.loop.windowPosition → ∃ t count, exec (.errorWindowEnd f) s = .next t
      ∧ count = s.loop.windowCount + (if f.check = frameCheck f then 0 else 1)
      ∧ t.loop.windowPosition = 0 ∧ t.loop.windowCount = 0
      ∧ t.qualityLow = ((s.qualityLow
          || (decide (f.check ≠ frameCheck f) && decide (s.loop.threshold ≤ count)))
        && !decide (count < max 1 (s.loop.threshold / 2)))
      ∧ (t.qualityLow ≠ s.qualityLow → t.tells (.loop (if t.qualityLow = true then .qualityLow else .qualityOk)))
      ∧ t.modes = s.modes ∧ t.dust = s.dust)

/-- A period that brings a slot no fresh value can make it stale (R171, R173): a SAMPLE binding whose age reaches the
stale limit becomes newly LOST and is handed on as such, and a COMMAND slot is taken over, which COMMAND_STALE tells
where no later notice of the event takes its place (R177). The period is an expiry, or a frame of RUN whose check is
bad or that leaves the slot as it is; no PART_RESET is pending. -/
def Obligations.StaleSlotsAreLostOrTakenOver : Prop :=
  ∀ (s : State) (period : LoopPeriod) (i : SlotNo) (r : Freshness) (limit : Nat),
    s.pins.porst = false → s.modes.partResetPending = false → limit ≤ min 255 (r.age + 1) →
    (∀ f, period = .frame f → s.loop.state = .run ∧ f.sync = 0x1F35#16
      ∧ (f.check ≠ frameCheck f ∨ (f.slots.get i).v = false ∨ r.lastT = some (f.slots.get i).t)) →
    (∀ b, s.loop.slots.get i = .sample b limit r → s.loop.isLost b = false →
      (∀ j, j ≠ i → (s.loop.slots.get j).sampleBinding ≠ some b) →
      ∃ t, exec (.bindingNewlyLost b period) s = .next t ∧ t.loop.isLost b = true
        ∧ t.waitingFor b = s.waitingFor b ++ [.newlyLost]
        ∧ t.loop.slots.get i = .sample b limit { r with age := min 255 (r.age + 1) })
    ∧ ∀ b c, s.loop.slots.get i = .command b limit r c → c.takenOver = false →
      ∃ t c', exec (.commandTakeover b period) s = .next t
        ∧ t.loop.slots.get i = .command b limit { r with age := min 255 (r.age + 1) } c'
        ∧ c'.takenOver = true
        ∧ ((∀ j, i < j → (s.loop.slots.get j).loopEvent (fun r => match period with
            | .frame f => r.broughtBy f j
            | .expiry => false) = none) →
          t.qualityLow = s.qualityLow → (s.loop.state = .run → s.loop.missedCount < 2) →
          s.modes.mode ≠ .loading ∨ s.loop.outage + 1 < 400 → t.tells (.loop (.commandStale b)))

/-- The frame on loop-out (R172, R173, R180, R185, R188). Sync and frame count pass; ATTENTION is set where a notice
waits; SAMPLE and UNUSED slots pass, without V from a bad frame; every COMMAND slot carries its owner's answer (R107,
R137) with V set; its T moves while it is taken over, is the arriving one where the command is fresh, moves where the
value does without it, and stands otherwise; the check is formed anew. The gate arbiter then holds the COMMAND cap it was
handed and the opening it answered as last written, and without GATE_CMD in the map what it held (R136, R137). The
characters of a waiting reply take the
places of the idle ones of a good frame in order, and the last of them empties the reply buffer. That a blanked
character keeps its S flag and data, and that a reply is sent only in a frame that found it waiting, is the model's
choice (log 23). -/
def Obligations.FrameIsFormedOnLoopOut : Prop :=
  ∀ (s : State) (w : WaitingFrame) (rest : List WaitingFrame), s.pins.porst = false →
    s.loop.toForm = w :: rest → s.modes.partResetPending = false →
    ∃ t out, exec .frameFormation s = .next t ∧ t.loop.loopOut = some out ∧ t.loop.toForm = rest
      ∧ out.sync = w.frame.sync ∧ out.frameCount = w.frame.frameCount
      ∧ t.loop.lastFrameCount = out.frameCount
      ∧ out.attention = (w.frame.attention || !s.notices.isEmpty) ∧ out.check = frameCheck out
      ∧ (∀ i, match s.loop.slots.get i with
        | .command b limit r c =>
          (∀ a, commandAxis b = some a → (out.slots.get i).data =
            BitVec.ofInt 16 (s.clampCommand a (if c.takenOver = true then 0 else r.held.getD 0).toInt))
          ∧ (b = .gateCmd → (out.slots.get i).data = BitVec.ofNat 16 { s.gate with
              commandCap := (max 0 (min 1000
                (if c.takenOver = true then 0 else r.held.getD 0).toInt)).toNat }.opening)
          ∧ (out.slots.get i).v = true
          ∧ (c.takenOver = false → (out.slots.get i).data ≠ c.lastValue →
            (out.slots.get i).t ≠ c.lastWrittenT)
          ∧ (c.takenOver = true → (out.slots.get i).t ≠ c.lastWrittenT)
          ∧ (c.takenOver = false → b ∈ w.fresh →
            (w.frame.slots.get i).t ≠ c.lastWrittenT ∨ (out.slots.get i).data = c.lastValue →
            (out.slots.get i).t = (w.frame.slots.get i).t)
          ∧ (c.takenOver = false → b ∉ w.fresh → (out.slots.get i).data = c.lastValue →
            (out.slots.get i).t = c.lastWrittenT)
          ∧ t.loop.slots.get i = .command b limit r
              ⟨c.takenOver, (out.slots.get i).data, (out.slots.get i).t⟩
        | e => t.loop.slots.get i = e ∧ out.slots.get i = (if w.good = true then w.frame.slots.get i
            else { w.frame.slots.get i with v := false }))
      ∧ (s.service.reply = none → t.service = s.service
        ∧ out.char1 = (if w.good = false ∨ w.blank1 = true then { w.frame.char1 with p := false }
            else w.frame.char1)
        ∧ out.char2 = (if w.good = false ∨ w.blank2 = true then { w.frame.char2 with p := false }
            else w.frame.char2))
      ∧ (∀ reply, s.service.reply = some reply → w.good = true → w.replyOk = true →
        w.blank1 = false → w.frame.char1.p = false →
        out.char1 = ⟨reply.sent == 0, true, reply.chars.getD reply.sent 0⟩
        ∧ (reply.chars.length ≤ reply.sent + 1 → exec .replySent s = .next t
          ∧ t.service = { s.service with reply := none }))
      ∧ (∀ reply first second, s.service.reply = some reply →
        first = (w.good && w.replyOk && !w.blank1 && !w.frame.char1.p) →
        second = (w.good && w.replyOk && !w.blank2 && !w.frame.char2.p
          && !(first && decide (reply.chars.length ≤ reply.sent + 1))) →
        out.char1 = (if first = true then ⟨reply.sent == 0, true, reply.chars.getD reply.sent 0⟩
          else if w.good = false ∨ w.blank1 = true then { w.frame.char1 with p := false }
          else w.frame.char1)
        ∧ out.char2 = (if second = true then
            (if first = true then ⟨false, true, reply.chars.getD (reply.sent + 1) 0⟩
              else ⟨reply.sent == 0, true, reply.chars.getD reply.sent 0⟩)
          else if w.good = false ∨ w.blank2 = true then { w.frame.char2 with p := false }
          else w.frame.char2)
        ∧ ∀ n, n = reply.sent + first.toNat + second.toNat →
          (n = reply.sent ∨ n < reply.chars.length →
            t.service = { s.service with reply := some { reply with sent := n } })
          ∧ (reply.sent < n → reply.chars.length ≤ n →
            t.service = { s.service with reply := none } ∧ exec .replySent s = .next t))
      ∧ t.notices = s.notices ∧ t.modes = s.modes ∧ t.plan = s.plan ∧ t.weigher = s.weigher
      ∧ t.gate.stopSet = s.gate.stopSet
      ∧ ((∀ i, (s.loop.slots.get i).commandBinding ≠ some .gateCmd) → t.gate = s.gate)
      ∧ ∀ i limit r c, s.loop.slots.get i = .command .gateCmd limit r c →
        (∀ j, j ≠ i → (s.loop.slots.get j).commandBinding ≠ some .gateCmd) →
        t.gate = { s.gate with
          commandCap := (max 0 (min 1000 (if c.takenOver = true then 0 else r.held.getD 0).toInt)).toNat,
          lastWritten := (out.slots.get i).data.toNat }

/-! ### Notices (chapter 10), modes and restarts (chapter 11) -/

/-- POLL_NOTICE (R187): the oldest notice is removed and answered DONE with its source, event kind and summary; an
empty queue is answered DONE with the source NONE and no further data. ATTENTION shows whether the queue still holds a
notice after the removal. The mode plays no part. -/
def Obligations.PollNoticeTakesTheOldest : Prop :=
  ∀ s : State, s.hears 0 [] →
    (∀ n rest, s.notices = n :: rest → exec (.pollNotice []) s = .next { s with
      notices := rest, came := [],
      service := s.answering rest 0x90 [] .done (.num 1 n.event.source.number :: .num 1 n.event.number ::
        ((match n.event with
          | .bill b _ => [.num 1 (b.val + 1 : Nat)]
          | _ => []) ++ n.summary)) })
    ∧ (s.notices = [] → exec (.pollNotice []) s = .next (s.readOut 0x90 [] [.num 1 0]))
    ∧ ∃ t reply, exec (.pollNotice []) s = .next t ∧ t.service.reply = some reply
      ∧ (reply.chars.getD 3 0).getLsbD 7 = !t.notices.isEmpty

/-- The mode requests (R191 to R194): their refusals in order. BEGIN_LOADING and RESUME lead to LOADING and clear
MODE, and an IDLE plan then activates its first PENDING step, with the figures it had (R66, R87); SUSPEND and END_LOADING
raise it; END_LOADING takes the step to do back to PENDING with a resume needed and drops the lot tag; PART_RESET waits
for the end of its reply. -/
def Obligations.ModeRequestsMoveTheMode : Prop :=
  ∀ s : State, s.hears 0 [] →
    exec (.partReset []) s = .next { s with
      modes := { s.modes with partResetPending := true }, came := [],
      service := s.answering s.notices 0xA5 [] .done [] }
    ∧ (s.modes.mode ≠ .setup → exec (.beginLoading []) s = .next (s.refused 0xA0 [] .wrongMode))
    ∧ (s.modes.mode = .setup →
      ((∃ b, (∀ z, b ≠ .dust z) ∧ s.loop.maps b = false) ∨ (∃ b, s.loop.mapsCommand b = false) →
        exec (.beginLoading []) s = .next (s.refused 0xA0 [] .mapIncomplete))
      ∧ ((∀ b, (∀ z, b ≠ .dust z) → s.loop.maps b = true) → (∀ b, s.loop.mapsCommand b = true) →
        (s.weigher.table = none ∨ s.holds.vessel = none ∨ (∃ a, (s.spout.axis a).entry = none)
            ∨ (∀ h, s.holds.holds.get h = none) ∨ s.loop.state ≠ .run →
          exec (.beginLoading []) s = .next (s.refused 0xA0 [] .wrongState))
        ∧ (s.weigher.table ≠ none → s.holds.vessel ≠ none → (∀ a, (s.spout.axis a).entry ≠ none) →
          (∃ h, s.holds.holds.get h ≠ none) → s.loop.state = .run →
          ∃ t, exec (.beginLoading []) s = .next t ∧ t.modes = { s.modes with mode := .loading }
            ∧ t.gate.stopSet.has .mode = false ∧ t.service = s.answering t.notices 0xA0 [] .done []
            ∧ t.loop = s.loop ∧ t.dust = s.dust ∧ t.contacts = s.contacts
            ∧ (s.plan.state = .idle → (∀ st ∈ s.plan.steps, st.state ≠ .pending) → t = { s with
                modes := t.modes, gate := { s.gate with stopSet := s.gate.stopSet.remove .mode },
                service := t.service, came := [] })
            ∧ ∀ i st, s.plan.state = .idle → (∀ x ∈ s.plan.steps, x.state ≠ .active) →
              firstPendingAt s.plan.steps i st →
              s.Activated t s.plan.steps i st (s.activationCheck st) ∧ t.plan.lastEnded = s.plan.lastEnded)))
    ∧ (s.modes.mode ≠ .loading → exec (.suspend []) s = .next (s.refused 0xA2 [] .wrongMode))
    ∧ (s.modes.mode = .loading → ∃ t, exec (.suspend []) s = .next t
      ∧ t.modes = { s.modes with mode := .suspended } ∧ t.gate.stopSet.has .mode = true
      ∧ t.service = s.answering t.notices 0xA2 [] .done [] ∧ t.queue = s.queue ∧ t.weigher = s.weigher
      ∧ (s.plan.state ≠ .pouring → s.plan.state ≠ .interrupted → t = { s with
          modes := t.modes, gate := { s.gate with stopSet := s.gate.stopSet.add .mode },
          service := t.service, came := [] }))
    ∧ (s.modes.mode ≠ .suspended → exec (.resume []) s = .next (s.refused 0xA3 [] .wrongMode))
    ∧ (s.modes.mode = .suspended → s.loop.state ≠ .run →
      exec (.resume []) s = .next (s.refused 0xA3 [] .wrongState))
    ∧ (s.modes.mode = .suspended → s.loop.state = .run → ∃ t, exec (.resume []) s = .next t
      ∧ t.modes = { s.modes with mode := .loading } ∧ t.gate.stopSet.has .mode = false
      ∧ t.service = s.answering t.notices 0xA3 [] .done []
      ∧ t.loop = s.loop ∧ t.dust = s.dust ∧ t.contacts = s.contacts
      ∧ ∀ i st, s.plan.state = .idle → (∀ x ∈ s.plan.steps, x.state ≠ .active) →
        firstPendingAt s.plan.steps i st →
        s.Activated t s.plan.steps i st (s.activationCheck st) ∧ t.plan.lastEnded = s.plan.lastEnded)
    ∧ (s.modes.mode = .setup → exec (.endLoading []) s = .next (s.refused 0xA1 [] .wrongMode))
    ∧ (s.modes.mode ≠ .setup → s.plan.state.flowing = true ∨ s.queue.carriesMass = true →
      exec (.endLoading []) s = .next (s.refused 0xA1 [] .flowActive))
    ∧ (s.modes.mode ≠ .setup → s.plan.state.flowing = false → s.queue.carriesMass = false →
      ∃ t, exec (.endLoading []) s = .next t ∧ t.modes = { s.modes with mode := .setup }
        ∧ t.gate.stopSet.has .mode = true ∧ t.weigher.tag = none
        ∧ t.plan.steps = s.plan.steps.map (fun st => if st.state = .active
            then { st with state := .pending, resumeNeeded := true } else st)
        ∧ (s.plan.active ≠ none → t.plan.state = .idle ∧ t.gate.topUpCap = none)
        ∧ (s.plan.active = none → t.plan = s.plan)
        ∧ t.service = s.answering t.notices 0xA1 [] .done []
        ∧ t.loop = s.loop ∧ t.dust = s.dust ∧ t.contacts = s.contacts ∧ t.bills = s.bills)

/-- POWER_ON (R162, R194): every register takes its reset value, whatever stood there; the straps give the station
address; with BKVALID the bill store is kept, each OPEN bill's in-transit mass becoming unresolved and its restart
counted, and without it every record is FREE and the totalizer 0. The queue of commands, the free values drawn, the
line signal and what left on loop-out are the outside's (log 3). -/
def Obligations.PowerOnResetsThePart : Prop :=
  ∀ (s : State) (straps : BitVec 6) (bkvalid : Bool), ∃ t, exec (.powerOn straps bkvalid) s = .next t
    ∧ t = { State.reset with
        bills := t.bills, service := { State.reset.service with station := straps },
        pins := { s.pins with porst := false, straps := straps, bkvalid := bkvalid },
        loop := { State.reset.loop with loopOut := s.loop.loopOut },
        freeCount := s.freeCount, pending := s.pending }
    ∧ (bkvalid = false → (∀ n, t.bills.records.get n = .free) ∧ t.bills.totalizer = 0
      ∧ t.bills.retention = .cleared)
    ∧ (bkvalid = true → t.bills.totalizer = s.bills.totalizer ∧ t.bills.retention = .kept
      ∧ ∀ n, t.bills.records.get n = match s.bills.records.get n with
        | .opened l => .opened { l with
            unresolved := l.unresolved + l.inTransit, inTransit := 0,
            restarts := min 255 (l.restarts + 1) }
        | r => r)

/-- A pending PART_RESET takes effect at the end of its reply (R163, R194), in either position of a frame, and where
that reply is discarded with RUN, by the line signal or by the third missed sync: every register takes its reset value,
the straps are read again, and the bill store is kept as by a POWER_ON with BKVALID, record by record. That the reset
at the third missed sync precedes that period's substitute frame, which the part, reset and outside RUN, then sends as
its first, with frame count 1 and every slot without V, is the model's reading (DEDUCED, log 26). The records are said
where a POURING plan has no stop reason against it, which every step keeps. -/
def Obligations.PartResetFollowsItsReply : Prop :=
  ∀ (s : State) (cause : ResetCause) (reply : Reply), s.pins.porst = false →
    s.modes.partResetPending = true → s.service.reply = some reply →
    (cause = .replyEnd → ∃ w rest first second, s.loop.toForm = w :: rest ∧ w.good = true ∧ w.replyOk = true
      ∧ first = (!w.blank1 && !w.frame.char1.p) ∧ second = (!w.blank2 && !w.frame.char2.p)
      ∧ (first || second) = true ∧ reply.chars.length ≤ reply.sent + first.toNat + second.toNat) →
    (∀ loss, cause = .replyDiscarded loss → s.loop.state = .run) →
    (cause = .replyDiscarded .missedSync → s.loop.missedCount = 2) →
    ∃ t bills, exec (.partResetEffect cause) s = .next t
      ∧ t = { State.reset with
          modes := { State.reset.modes with lastRestart := .partReset }, bills := bills,
          service := { State.reset.service with station := s.pins.straps },
          pins := { s.pins with
            lineSignal := s.pins.lineSignal && !decide (cause = .replyDiscarded .lineLost) },
          loop := { State.reset.loop with
            loopOut := t.loop.loopOut,
            lastFrameCount := if cause = .replyDiscarded .missedSync then 1 else 0 },
          freeCount := t.freeCount, pending := s.pending, came := t.came }
      ∧ (cause ≠ .replyDiscarded .missedSync → t.freeCount = s.freeCount)
      ∧ (cause = .replyDiscarded .missedSync → ∃ out, t.loop.loopOut = some out ∧ out.sync = 0x1F35#16
        ∧ out.frameCount = 1 ∧ out.attention = false ∧ out.check = frameCheck out
        ∧ out.char1.p = false ∧ out.char2.p = false ∧ ∀ i, out.slots.get i = ⟨false, false, 0⟩)
      ∧ bills.totalizer = s.bills.totalizer ∧ bills.retention = .kept
      ∧ (s.pourUnopposed → ∀ n, bills.records.get n = match s.bills.records.get n with
        | .opened l => .opened { l with
            unresolved := l.unresolved + l.inTransit, inTransit := 0,
            restarts := min 255 (l.restarts + 1) }
        | r => r)

/-! ### What every step keeps -/

/-- Right after reset every agreement that a step keeps holds: the stop reasons, the notice queue, the plan list, the
queue, the counters, the holds, the bills and the spout's derived state. -/
def Obligations.ResetMeetsEveryAgreement : Prop :=
  State.reset.ReasonsAgree ∧ State.reset.ContactReasonsAgree ∧ State.reset.noticesDistinct
  ∧ State.reset.planOrdered ∧ State.reset.queueFits ∧ State.reset.CountersInRange
  ∧ State.reset.HoldsAgree ∧ State.reset.BillsAgree ∧ State.reset.SpoutDerived ∧ State.reset.pourUnopposed
  ∧ State.reset.ContactsAgree

/-- Every step keeps the agreement of the stop reasons with their owners (R135): of MODE, LOOP, PLAN, PULL_CORD,
ZEROING, WEIGH, DECK, GATE_FEEDBACK and the DUST reasons with what their owners hold, and, by itself, of SPOUT, HATCH
and SWAY with the spout, the active step and the contacts (R99, R147, R148); and a POURING plan is left with no reason
but PLAN against it (R71, R74). Every step keeps each contact role with one input at most (R140), the pull-cord latch
set while its input is active, however that came about (R145), the tip contact flag at the state of its input (R101),
and the raw data wherever a sample has been taken since the last restart (R139, R142). -/
def Obligations.StepsKeepTheReasons : Prop :=
  (∀ s t : State, s.ReasonsAgree → step s = .next t → t.ReasonsAgree)
  ∧ (∀ s t : State, s.pourUnopposed → step s = .next t → t.pourUnopposed)
  ∧ (∀ s t : State, s.ContactReasonsAgree → step s = .next t → t.ContactReasonsAgree)
  ∧ ∀ s t : State, s.ContactsAgree → step s = .next t → t.ContactsAgree

/-- Every step keeps at most one notice for each source in the notice queue (R186), and the plan list in its order,
with a step ACTIVE exactly outside IDLE (R63, R64). Posting puts a notice in the place of its source's queued one, or at
the tail where none is queued, and leaves every other as it was (R186). So no command but POLL_NOTICE (R187), POWER_ON
and one in which a PART_RESET takes effect (R189) takes a source out of the queue or moves one in it: those queued keep
their places, and new ones stand behind them. -/
def Obligations.StepsKeepTheListsInOrder : Prop :=
  (∀ s t : State, s.noticesDistinct → step s = .next t → t.noticesDistinct)
  ∧ (∀ s t : State, s.planOrdered → step s = .next t → t.planOrdered)
  ∧ (∀ (n m : Notice) (before after : List Notice),
    ((before ++ m :: after).map (fun x => x.event.source)).Nodup → m.event.source = n.event.source →
    postNotice n (before ++ m :: after) = before ++ n :: after)
  ∧ (∀ (n : Notice) (queued : List Notice), (∀ x ∈ queued, x.event.source ≠ n.event.source) →
    postNotice n queued = queued ++ [n])
  ∧ ∀ (c : Instr) (s t : State), exec c s = .next t → (∀ p, c ≠ .pollNotice p) →
    (∀ straps kept, c ≠ .powerOn straps kept) → .partReset ∉ t.came →
    s.notices.map (fun n => n.event.source) <+: t.notices.map (fun n => n.event.source)

/-- Every step keeps the transit queue within 96 parcels and every counter in the range of its rule (R6, R10, R23,
R62, R92, R106, R116, R155, R166, R167, R169, R175), and the weigh table and the zone records in their ranges (R1,
R113). -/
def Obligations.StepsKeepTheCounters : Prop :=
  ∀ s t : State, s.queueFits → s.CountersInRange → step s = .next t → t.queueFits ∧ t.CountersInRange

/-- Every step keeps the heights, the clear level, the moment and the cargo aboard as their rules form them (R51, R53,
R54, R56, R58). -/
def Obligations.StepsKeepTheHolds : Prop :=
  ∀ s t : State, s.HoldsAgree → step s = .next t → t.HoldsAgree

/-- Every step keeps the bills in balance (R154): weighed is the sum of the hold entries, spill, unresolved and
in-transit; in-transit is the mass of the bill's parcels in the queue; no CLOSED bill has any; and the steps to do and
the lot tag name OPEN bills. -/
def Obligations.StepsKeepTheBills : Prop :=
  ∀ s t : State, s.BillsAgree → step s = .next t → t.BillsAgree
end

