-- ==== Sys2Proof/Laws/State.lean ====
section
/-! SUPPORT. One lemma for each field of `State` under each of its updates. -/

namespace Sys2Proof.Machine

variable (s : State)

/-! ### `setWeigher` -/

@[simp] theorem State.setWeigher_weigher (x : Weigher) : (s.setWeigher x).weigher = x := rfl
@[simp] theorem State.setWeigher_queue (x : Weigher) : (s.setWeigher x).queue = s.queue := rfl
@[simp] theorem State.setWeigher_holds (x : Weigher) : (s.setWeigher x).holds = s.holds := rfl
@[simp] theorem State.setWeigher_plan (x : Weigher) : (s.setWeigher x).plan = s.plan := rfl
@[simp] theorem State.setWeigher_spout (x : Weigher) : (s.setWeigher x).spout = s.spout := rfl
@[simp] theorem State.setWeigher_dust (x : Weigher) : (s.setWeigher x).dust = s.dust := rfl
@[simp] theorem State.setWeigher_gate (x : Weigher) : (s.setWeigher x).gate = s.gate := rfl
@[simp] theorem State.setWeigher_contacts (x : Weigher) : (s.setWeigher x).contacts = s.contacts := rfl
@[simp] theorem State.setWeigher_bills (x : Weigher) : (s.setWeigher x).bills = s.bills := rfl
@[simp] theorem State.setWeigher_loop (x : Weigher) : (s.setWeigher x).loop = s.loop := rfl
@[simp] theorem State.setWeigher_service (x : Weigher) : (s.setWeigher x).service = s.service := rfl
@[simp] theorem State.setWeigher_notices (x : Weigher) : (s.setWeigher x).notices = s.notices := rfl
@[simp] theorem State.setWeigher_modes (x : Weigher) : (s.setWeigher x).modes = s.modes := rfl
@[simp] theorem State.setWeigher_pins (x : Weigher) : (s.setWeigher x).pins = s.pins := rfl
@[simp] theorem State.setWeigher_came (x : Weigher) : (s.setWeigher x).came = s.came := rfl
@[simp] theorem State.setWeigher_freeCount (x : Weigher) : (s.setWeigher x).freeCount = s.freeCount := rfl
@[simp] theorem State.setWeigher_pending (x : Weigher) : (s.setWeigher x).pending = s.pending := rfl

/-! ### `setQueue` -/

@[simp] theorem State.setQueue_weigher (x : TransitQueue) : (s.setQueue x).weigher = s.weigher := rfl
@[simp] theorem State.setQueue_queue (x : TransitQueue) : (s.setQueue x).queue = x := rfl
@[simp] theorem State.setQueue_holds (x : TransitQueue) : (s.setQueue x).holds = s.holds := rfl
@[simp] theorem State.setQueue_plan (x : TransitQueue) : (s.setQueue x).plan = s.plan := rfl
@[simp] theorem State.setQueue_spout (x : TransitQueue) : (s.setQueue x).spout = s.spout := rfl
@[simp] theorem State.setQueue_dust (x : TransitQueue) : (s.setQueue x).dust = s.dust := rfl
@[simp] theorem State.setQueue_gate (x : TransitQueue) : (s.setQueue x).gate = s.gate := rfl
@[simp] theorem State.setQueue_contacts (x : TransitQueue) : (s.setQueue x).contacts = s.contacts := rfl
@[simp] theorem State.setQueue_bills (x : TransitQueue) : (s.setQueue x).bills = s.bills := rfl
@[simp] theorem State.setQueue_loop (x : TransitQueue) : (s.setQueue x).loop = s.loop := rfl
@[simp] theorem State.setQueue_service (x : TransitQueue) : (s.setQueue x).service = s.service := rfl
@[simp] theorem State.setQueue_notices (x : TransitQueue) : (s.setQueue x).notices = s.notices := rfl
@[simp] theorem State.setQueue_modes (x : TransitQueue) : (s.setQueue x).modes = s.modes := rfl
@[simp] theorem State.setQueue_pins (x : TransitQueue) : (s.setQueue x).pins = s.pins := rfl
@[simp] theorem State.setQueue_came (x : TransitQueue) : (s.setQueue x).came = s.came := rfl
@[simp] theorem State.setQueue_freeCount (x : TransitQueue) : (s.setQueue x).freeCount = s.freeCount := rfl
@[simp] theorem State.setQueue_pending (x : TransitQueue) : (s.setQueue x).pending = s.pending := rfl

/-! ### `setHolds` -/

@[simp] theorem State.setHolds_weigher (x : HoldTable) : (s.setHolds x).weigher = s.weigher := rfl
@[simp] theorem State.setHolds_queue (x : HoldTable) : (s.setHolds x).queue = s.queue := rfl
@[simp] theorem State.setHolds_holds (x : HoldTable) : (s.setHolds x).holds = x := rfl
@[simp] theorem State.setHolds_plan (x : HoldTable) : (s.setHolds x).plan = s.plan := rfl
@[simp] theorem State.setHolds_spout (x : HoldTable) : (s.setHolds x).spout = s.spout := rfl
@[simp] theorem State.setHolds_dust (x : HoldTable) : (s.setHolds x).dust = s.dust := rfl
@[simp] theorem State.setHolds_gate (x : HoldTable) : (s.setHolds x).gate = s.gate := rfl
@[simp] theorem State.setHolds_contacts (x : HoldTable) : (s.setHolds x).contacts = s.contacts := rfl
@[simp] theorem State.setHolds_bills (x : HoldTable) : (s.setHolds x).bills = s.bills := rfl
@[simp] theorem State.setHolds_loop (x : HoldTable) : (s.setHolds x).loop = s.loop := rfl
@[simp] theorem State.setHolds_service (x : HoldTable) : (s.setHolds x).service = s.service := rfl
@[simp] theorem State.setHolds_notices (x : HoldTable) : (s.setHolds x).notices = s.notices := rfl
@[simp] theorem State.setHolds_modes (x : HoldTable) : (s.setHolds x).modes = s.modes := rfl
@[simp] theorem State.setHolds_pins (x : HoldTable) : (s.setHolds x).pins = s.pins := rfl
@[simp] theorem State.setHolds_came (x : HoldTable) : (s.setHolds x).came = s.came := rfl
@[simp] theorem State.setHolds_freeCount (x : HoldTable) : (s.setHolds x).freeCount = s.freeCount := rfl
@[simp] theorem State.setHolds_pending (x : HoldTable) : (s.setHolds x).pending = s.pending := rfl

/-! ### `setPlan` -/

@[simp] theorem State.setPlan_weigher (x : Plan) : (s.setPlan x).weigher = s.weigher := rfl
@[simp] theorem State.setPlan_queue (x : Plan) : (s.setPlan x).queue = s.queue := rfl
@[simp] theorem State.setPlan_holds (x : Plan) : (s.setPlan x).holds = s.holds := rfl
@[simp] theorem State.setPlan_plan (x : Plan) : (s.setPlan x).plan = x := rfl
@[simp] theorem State.setPlan_spout (x : Plan) : (s.setPlan x).spout = s.spout := rfl
@[simp] theorem State.setPlan_dust (x : Plan) : (s.setPlan x).dust = s.dust := rfl
@[simp] theorem State.setPlan_gate (x : Plan) : (s.setPlan x).gate = s.gate := rfl
@[simp] theorem State.setPlan_contacts (x : Plan) : (s.setPlan x).contacts = s.contacts := rfl
@[simp] theorem State.setPlan_bills (x : Plan) : (s.setPlan x).bills = s.bills := rfl
@[simp] theorem State.setPlan_loop (x : Plan) : (s.setPlan x).loop = s.loop := rfl
@[simp] theorem State.setPlan_service (x : Plan) : (s.setPlan x).service = s.service := rfl
@[simp] theorem State.setPlan_notices (x : Plan) : (s.setPlan x).notices = s.notices := rfl
@[simp] theorem State.setPlan_modes (x : Plan) : (s.setPlan x).modes = s.modes := rfl
@[simp] theorem State.setPlan_pins (x : Plan) : (s.setPlan x).pins = s.pins := rfl
@[simp] theorem State.setPlan_came (x : Plan) : (s.setPlan x).came = s.came := rfl
@[simp] theorem State.setPlan_freeCount (x : Plan) : (s.setPlan x).freeCount = s.freeCount := rfl
@[simp] theorem State.setPlan_pending (x : Plan) : (s.setPlan x).pending = s.pending := rfl

/-! ### `setSpout` -/

@[simp] theorem State.setSpout_weigher (x : Spout) : (s.setSpout x).weigher = s.weigher := rfl
@[simp] theorem State.setSpout_queue (x : Spout) : (s.setSpout x).queue = s.queue := rfl
@[simp] theorem State.setSpout_holds (x : Spout) : (s.setSpout x).holds = s.holds := rfl
@[simp] theorem State.setSpout_plan (x : Spout) : (s.setSpout x).plan = s.plan := rfl
@[simp] theorem State.setSpout_spout (x : Spout) : (s.setSpout x).spout = x := rfl
@[simp] theorem State.setSpout_dust (x : Spout) : (s.setSpout x).dust = s.dust := rfl
@[simp] theorem State.setSpout_gate (x : Spout) : (s.setSpout x).gate = s.gate := rfl
@[simp] theorem State.setSpout_contacts (x : Spout) : (s.setSpout x).contacts = s.contacts := rfl
@[simp] theorem State.setSpout_bills (x : Spout) : (s.setSpout x).bills = s.bills := rfl
@[simp] theorem State.setSpout_loop (x : Spout) : (s.setSpout x).loop = s.loop := rfl
@[simp] theorem State.setSpout_service (x : Spout) : (s.setSpout x).service = s.service := rfl
@[simp] theorem State.setSpout_notices (x : Spout) : (s.setSpout x).notices = s.notices := rfl
@[simp] theorem State.setSpout_modes (x : Spout) : (s.setSpout x).modes = s.modes := rfl
@[simp] theorem State.setSpout_pins (x : Spout) : (s.setSpout x).pins = s.pins := rfl
@[simp] theorem State.setSpout_came (x : Spout) : (s.setSpout x).came = s.came := rfl
@[simp] theorem State.setSpout_freeCount (x : Spout) : (s.setSpout x).freeCount = s.freeCount := rfl
@[simp] theorem State.setSpout_pending (x : Spout) : (s.setSpout x).pending = s.pending := rfl

/-! ### `setDust` -/

@[simp] theorem State.setDust_weigher (x : Vector Zone 6) : (s.setDust x).weigher = s.weigher := rfl
@[simp] theorem State.setDust_queue (x : Vector Zone 6) : (s.setDust x).queue = s.queue := rfl
@[simp] theorem State.setDust_holds (x : Vector Zone 6) : (s.setDust x).holds = s.holds := rfl
@[simp] theorem State.setDust_plan (x : Vector Zone 6) : (s.setDust x).plan = s.plan := rfl
@[simp] theorem State.setDust_spout (x : Vector Zone 6) : (s.setDust x).spout = s.spout := rfl
@[simp] theorem State.setDust_dust (x : Vector Zone 6) : (s.setDust x).dust = x := rfl
@[simp] theorem State.setDust_gate (x : Vector Zone 6) : (s.setDust x).gate = s.gate := rfl
@[simp] theorem State.setDust_contacts (x : Vector Zone 6) : (s.setDust x).contacts = s.contacts := rfl
@[simp] theorem State.setDust_bills (x : Vector Zone 6) : (s.setDust x).bills = s.bills := rfl
@[simp] theorem State.setDust_loop (x : Vector Zone 6) : (s.setDust x).loop = s.loop := rfl
@[simp] theorem State.setDust_service (x : Vector Zone 6) : (s.setDust x).service = s.service := rfl
@[simp] theorem State.setDust_notices (x : Vector Zone 6) : (s.setDust x).notices = s.notices := rfl
@[simp] theorem State.setDust_modes (x : Vector Zone 6) : (s.setDust x).modes = s.modes := rfl
@[simp] theorem State.setDust_pins (x : Vector Zone 6) : (s.setDust x).pins = s.pins := rfl
@[simp] theorem State.setDust_came (x : Vector Zone 6) : (s.setDust x).came = s.came := rfl
@[simp] theorem State.setDust_freeCount (x : Vector Zone 6) : (s.setDust x).freeCount = s.freeCount := rfl
@[simp] theorem State.setDust_pending (x : Vector Zone 6) : (s.setDust x).pending = s.pending := rfl

/-! ### `setGate` -/

@[simp] theorem State.setGate_weigher (x : Gate) : (s.setGate x).weigher = s.weigher := rfl
@[simp] theorem State.setGate_queue (x : Gate) : (s.setGate x).queue = s.queue := rfl
@[simp] theorem State.setGate_holds (x : Gate) : (s.setGate x).holds = s.holds := rfl
@[simp] theorem State.setGate_plan (x : Gate) : (s.setGate x).plan = s.plan := rfl
@[simp] theorem State.setGate_spout (x : Gate) : (s.setGate x).spout = s.spout := rfl
@[simp] theorem State.setGate_dust (x : Gate) : (s.setGate x).dust = s.dust := rfl
@[simp] theorem State.setGate_gate (x : Gate) : (s.setGate x).gate = x := rfl
@[simp] theorem State.setGate_contacts (x : Gate) : (s.setGate x).contacts = s.contacts := rfl
@[simp] theorem State.setGate_bills (x : Gate) : (s.setGate x).bills = s.bills := rfl
@[simp] theorem State.setGate_loop (x : Gate) : (s.setGate x).loop = s.loop := rfl
@[simp] theorem State.setGate_service (x : Gate) : (s.setGate x).service = s.service := rfl
@[simp] theorem State.setGate_notices (x : Gate) : (s.setGate x).notices = s.notices := rfl
@[simp] theorem State.setGate_modes (x : Gate) : (s.setGate x).modes = s.modes := rfl
@[simp] theorem State.setGate_pins (x : Gate) : (s.setGate x).pins = s.pins := rfl
@[simp] theorem State.setGate_came (x : Gate) : (s.setGate x).came = s.came := rfl
@[simp] theorem State.setGate_freeCount (x : Gate) : (s.setGate x).freeCount = s.freeCount := rfl
@[simp] theorem State.setGate_pending (x : Gate) : (s.setGate x).pending = s.pending := rfl

/-! ### `setContacts` -/

@[simp] theorem State.setContacts_weigher (x : Contacts) : (s.setContacts x).weigher = s.weigher := rfl
@[simp] theorem State.setContacts_queue (x : Contacts) : (s.setContacts x).queue = s.queue := rfl
@[simp] theorem State.setContacts_holds (x : Contacts) : (s.setContacts x).holds = s.holds := rfl
@[simp] theorem State.setContacts_plan (x : Contacts) : (s.setContacts x).plan = s.plan := rfl
@[simp] theorem State.setContacts_spout (x : Contacts) : (s.setContacts x).spout = s.spout := rfl
@[simp] theorem State.setContacts_dust (x : Contacts) : (s.setContacts x).dust = s.dust := rfl
@[simp] theorem State.setContacts_gate (x : Contacts) : (s.setContacts x).gate = s.gate := rfl
@[simp] theorem State.setContacts_contacts (x : Contacts) : (s.setContacts x).contacts = x := rfl
@[simp] theorem State.setContacts_bills (x : Contacts) : (s.setContacts x).bills = s.bills := rfl
@[simp] theorem State.setContacts_loop (x : Contacts) : (s.setContacts x).loop = s.loop := rfl
@[simp] theorem State.setContacts_service (x : Contacts) : (s.setContacts x).service = s.service := rfl
@[simp] theorem State.setContacts_notices (x : Contacts) : (s.setContacts x).notices = s.notices := rfl
@[simp] theorem State.setContacts_modes (x : Contacts) : (s.setContacts x).modes = s.modes := rfl
@[simp] theorem State.setContacts_pins (x : Contacts) : (s.setContacts x).pins = s.pins := rfl
@[simp] theorem State.setContacts_came (x : Contacts) : (s.setContacts x).came = s.came := rfl
@[simp] theorem State.setContacts_freeCount (x : Contacts) : (s.setContacts x).freeCount = s.freeCount := rfl
@[simp] theorem State.setContacts_pending (x : Contacts) : (s.setContacts x).pending = s.pending := rfl

/-! ### `setBills` -/

@[simp] theorem State.setBills_weigher (x : BillStore) : (s.setBills x).weigher = s.weigher := rfl
@[simp] theorem State.setBills_queue (x : BillStore) : (s.setBills x).queue = s.queue := rfl
@[simp] theorem State.setBills_holds (x : BillStore) : (s.setBills x).holds = s.holds := rfl
@[simp] theorem State.setBills_plan (x : BillStore) : (s.setBills x).plan = s.plan := rfl
@[simp] theorem State.setBills_spout (x : BillStore) : (s.setBills x).spout = s.spout := rfl
@[simp] theorem State.setBills_dust (x : BillStore) : (s.setBills x).dust = s.dust := rfl
@[simp] theorem State.setBills_gate (x : BillStore) : (s.setBills x).gate = s.gate := rfl
@[simp] theorem State.setBills_contacts (x : BillStore) : (s.setBills x).contacts = s.contacts := rfl
@[simp] theorem State.setBills_bills (x : BillStore) : (s.setBills x).bills = x := rfl
@[simp] theorem State.setBills_loop (x : BillStore) : (s.setBills x).loop = s.loop := rfl
@[simp] theorem State.setBills_service (x : BillStore) : (s.setBills x).service = s.service := rfl
@[simp] theorem State.setBills_notices (x : BillStore) : (s.setBills x).notices = s.notices := rfl
@[simp] theorem State.setBills_modes (x : BillStore) : (s.setBills x).modes = s.modes := rfl
@[simp] theorem State.setBills_pins (x : BillStore) : (s.setBills x).pins = s.pins := rfl
@[simp] theorem State.setBills_came (x : BillStore) : (s.setBills x).came = s.came := rfl
@[simp] theorem State.setBills_freeCount (x : BillStore) : (s.setBills x).freeCount = s.freeCount := rfl
@[simp] theorem State.setBills_pending (x : BillStore) : (s.setBills x).pending = s.pending := rfl

/-! ### `setLoop` -/

@[simp] theorem State.setLoop_weigher (x : LoopPort) : (s.setLoop x).weigher = s.weigher := rfl
@[simp] theorem State.setLoop_queue (x : LoopPort) : (s.setLoop x).queue = s.queue := rfl
@[simp] theorem State.setLoop_holds (x : LoopPort) : (s.setLoop x).holds = s.holds := rfl
@[simp] theorem State.setLoop_plan (x : LoopPort) : (s.setLoop x).plan = s.plan := rfl
@[simp] theorem State.setLoop_spout (x : LoopPort) : (s.setLoop x).spout = s.spout := rfl
@[simp] theorem State.setLoop_dust (x : LoopPort) : (s.setLoop x).dust = s.dust := rfl
@[simp] theorem State.setLoop_gate (x : LoopPort) : (s.setLoop x).gate = s.gate := rfl
@[simp] theorem State.setLoop_contacts (x : LoopPort) : (s.setLoop x).contacts = s.contacts := rfl
@[simp] theorem State.setLoop_bills (x : LoopPort) : (s.setLoop x).bills = s.bills := rfl
@[simp] theorem State.setLoop_loop (x : LoopPort) : (s.setLoop x).loop = x := rfl
@[simp] theorem State.setLoop_service (x : LoopPort) : (s.setLoop x).service = s.service := rfl
@[simp] theorem State.setLoop_notices (x : LoopPort) : (s.setLoop x).notices = s.notices := rfl
@[simp] theorem State.setLoop_modes (x : LoopPort) : (s.setLoop x).modes = s.modes := rfl
@[simp] theorem State.setLoop_pins (x : LoopPort) : (s.setLoop x).pins = s.pins := rfl
@[simp] theorem State.setLoop_came (x : LoopPort) : (s.setLoop x).came = s.came := rfl
@[simp] theorem State.setLoop_freeCount (x : LoopPort) : (s.setLoop x).freeCount = s.freeCount := rfl
@[simp] theorem State.setLoop_pending (x : LoopPort) : (s.setLoop x).pending = s.pending := rfl

/-! ### `setService` -/

@[simp] theorem State.setService_weigher (x : Service) : (s.setService x).weigher = s.weigher := rfl
@[simp] theorem State.setService_queue (x : Service) : (s.setService x).queue = s.queue := rfl
@[simp] theorem State.setService_holds (x : Service) : (s.setService x).holds = s.holds := rfl
@[simp] theorem State.setService_plan (x : Service) : (s.setService x).plan = s.plan := rfl
@[simp] theorem State.setService_spout (x : Service) : (s.setService x).spout = s.spout := rfl
@[simp] theorem State.setService_dust (x : Service) : (s.setService x).dust = s.dust := rfl
@[simp] theorem State.setService_gate (x : Service) : (s.setService x).gate = s.gate := rfl
@[simp] theorem State.setService_contacts (x : Service) : (s.setService x).contacts = s.contacts := rfl
@[simp] theorem State.setService_bills (x : Service) : (s.setService x).bills = s.bills := rfl
@[simp] theorem State.setService_loop (x : Service) : (s.setService x).loop = s.loop := rfl
@[simp] theorem State.setService_service (x : Service) : (s.setService x).service = x := rfl
@[simp] theorem State.setService_notices (x : Service) : (s.setService x).notices = s.notices := rfl
@[simp] theorem State.setService_modes (x : Service) : (s.setService x).modes = s.modes := rfl
@[simp] theorem State.setService_pins (x : Service) : (s.setService x).pins = s.pins := rfl
@[simp] theorem State.setService_came (x : Service) : (s.setService x).came = s.came := rfl
@[simp] theorem State.setService_freeCount (x : Service) : (s.setService x).freeCount = s.freeCount := rfl
@[simp] theorem State.setService_pending (x : Service) : (s.setService x).pending = s.pending := rfl

/-! ### `setNotices` -/

@[simp] theorem State.setNotices_weigher (x : List Notice) : (s.setNotices x).weigher = s.weigher := rfl
@[simp] theorem State.setNotices_queue (x : List Notice) : (s.setNotices x).queue = s.queue := rfl
@[simp] theorem State.setNotices_holds (x : List Notice) : (s.setNotices x).holds = s.holds := rfl
@[simp] theorem State.setNotices_plan (x : List Notice) : (s.setNotices x).plan = s.plan := rfl
@[simp] theorem State.setNotices_spout (x : List Notice) : (s.setNotices x).spout = s.spout := rfl
@[simp] theorem State.setNotices_dust (x : List Notice) : (s.setNotices x).dust = s.dust := rfl
@[simp] theorem State.setNotices_gate (x : List Notice) : (s.setNotices x).gate = s.gate := rfl
@[simp] theorem State.setNotices_contacts (x : List Notice) : (s.setNotices x).contacts = s.contacts := rfl
@[simp] theorem State.setNotices_bills (x : List Notice) : (s.setNotices x).bills = s.bills := rfl
@[simp] theorem State.setNotices_loop (x : List Notice) : (s.setNotices x).loop = s.loop := rfl
@[simp] theorem State.setNotices_service (x : List Notice) : (s.setNotices x).service = s.service := rfl
@[simp] theorem State.setNotices_notices (x : List Notice) : (s.setNotices x).notices = x := rfl
@[simp] theorem State.setNotices_modes (x : List Notice) : (s.setNotices x).modes = s.modes := rfl
@[simp] theorem State.setNotices_pins (x : List Notice) : (s.setNotices x).pins = s.pins := rfl
@[simp] theorem State.setNotices_came (x : List Notice) : (s.setNotices x).came = s.came := rfl
@[simp] theorem State.setNotices_freeCount (x : List Notice) : (s.setNotices x).freeCount = s.freeCount := rfl
@[simp] theorem State.setNotices_pending (x : List Notice) : (s.setNotices x).pending = s.pending := rfl

/-! ### `setModes` -/

@[simp] theorem State.setModes_weigher (x : Modes) : (s.setModes x).weigher = s.weigher := rfl
@[simp] theorem State.setModes_queue (x : Modes) : (s.setModes x).queue = s.queue := rfl
@[simp] theorem State.setModes_holds (x : Modes) : (s.setModes x).holds = s.holds := rfl
@[simp] theorem State.setModes_plan (x : Modes) : (s.setModes x).plan = s.plan := rfl
@[simp] theorem State.setModes_spout (x : Modes) : (s.setModes x).spout = s.spout := rfl
@[simp] theorem State.setModes_dust (x : Modes) : (s.setModes x).dust = s.dust := rfl
@[simp] theorem State.setModes_gate (x : Modes) : (s.setModes x).gate = s.gate := rfl
@[simp] theorem State.setModes_contacts (x : Modes) : (s.setModes x).contacts = s.contacts := rfl
@[simp] theorem State.setModes_bills (x : Modes) : (s.setModes x).bills = s.bills := rfl
@[simp] theorem State.setModes_loop (x : Modes) : (s.setModes x).loop = s.loop := rfl
@[simp] theorem State.setModes_service (x : Modes) : (s.setModes x).service = s.service := rfl
@[simp] theorem State.setModes_notices (x : Modes) : (s.setModes x).notices = s.notices := rfl
@[simp] theorem State.setModes_modes (x : Modes) : (s.setModes x).modes = x := rfl
@[simp] theorem State.setModes_pins (x : Modes) : (s.setModes x).pins = s.pins := rfl
@[simp] theorem State.setModes_came (x : Modes) : (s.setModes x).came = s.came := rfl
@[simp] theorem State.setModes_freeCount (x : Modes) : (s.setModes x).freeCount = s.freeCount := rfl
@[simp] theorem State.setModes_pending (x : Modes) : (s.setModes x).pending = s.pending := rfl

/-! ### `setPins` -/

@[simp] theorem State.setPins_weigher (x : Pins) : (s.setPins x).weigher = s.weigher := rfl
@[simp] theorem State.setPins_queue (x : Pins) : (s.setPins x).queue = s.queue := rfl
@[simp] theorem State.setPins_holds (x : Pins) : (s.setPins x).holds = s.holds := rfl
@[simp] theorem State.setPins_plan (x : Pins) : (s.setPins x).plan = s.plan := rfl
@[simp] theorem State.setPins_spout (x : Pins) : (s.setPins x).spout = s.spout := rfl
@[simp] theorem State.setPins_dust (x : Pins) : (s.setPins x).dust = s.dust := rfl
@[simp] theorem State.setPins_gate (x : Pins) : (s.setPins x).gate = s.gate := rfl
@[simp] theorem State.setPins_contacts (x : Pins) : (s.setPins x).contacts = s.contacts := rfl
@[simp] theorem State.setPins_bills (x : Pins) : (s.setPins x).bills = s.bills := rfl
@[simp] theorem State.setPins_loop (x : Pins) : (s.setPins x).loop = s.loop := rfl
@[simp] theorem State.setPins_service (x : Pins) : (s.setPins x).service = s.service := rfl
@[simp] theorem State.setPins_notices (x : Pins) : (s.setPins x).notices = s.notices := rfl
@[simp] theorem State.setPins_modes (x : Pins) : (s.setPins x).modes = s.modes := rfl
@[simp] theorem State.setPins_pins (x : Pins) : (s.setPins x).pins = x := rfl
@[simp] theorem State.setPins_came (x : Pins) : (s.setPins x).came = s.came := rfl
@[simp] theorem State.setPins_freeCount (x : Pins) : (s.setPins x).freeCount = s.freeCount := rfl
@[simp] theorem State.setPins_pending (x : Pins) : (s.setPins x).pending = s.pending := rfl

/-! ### `setCame` -/

@[simp] theorem State.setCame_weigher (x : List Occurrence) : (s.setCame x).weigher = s.weigher := rfl
@[simp] theorem State.setCame_queue (x : List Occurrence) : (s.setCame x).queue = s.queue := rfl
@[simp] theorem State.setCame_holds (x : List Occurrence) : (s.setCame x).holds = s.holds := rfl
@[simp] theorem State.setCame_plan (x : List Occurrence) : (s.setCame x).plan = s.plan := rfl
@[simp] theorem State.setCame_spout (x : List Occurrence) : (s.setCame x).spout = s.spout := rfl
@[simp] theorem State.setCame_dust (x : List Occurrence) : (s.setCame x).dust = s.dust := rfl
@[simp] theorem State.setCame_gate (x : List Occurrence) : (s.setCame x).gate = s.gate := rfl
@[simp] theorem State.setCame_contacts (x : List Occurrence) : (s.setCame x).contacts = s.contacts := rfl
@[simp] theorem State.setCame_bills (x : List Occurrence) : (s.setCame x).bills = s.bills := rfl
@[simp] theorem State.setCame_loop (x : List Occurrence) : (s.setCame x).loop = s.loop := rfl
@[simp] theorem State.setCame_service (x : List Occurrence) : (s.setCame x).service = s.service := rfl
@[simp] theorem State.setCame_notices (x : List Occurrence) : (s.setCame x).notices = s.notices := rfl
@[simp] theorem State.setCame_modes (x : List Occurrence) : (s.setCame x).modes = s.modes := rfl
@[simp] theorem State.setCame_pins (x : List Occurrence) : (s.setCame x).pins = s.pins := rfl
@[simp] theorem State.setCame_came (x : List Occurrence) : (s.setCame x).came = x := rfl
@[simp] theorem State.setCame_freeCount (x : List Occurrence) : (s.setCame x).freeCount = s.freeCount := rfl
@[simp] theorem State.setCame_pending (x : List Occurrence) : (s.setCame x).pending = s.pending := rfl

/-! ### `setFreeCount` -/

@[simp] theorem State.setFreeCount_weigher (x : Nat) : (s.setFreeCount x).weigher = s.weigher := rfl
@[simp] theorem State.setFreeCount_queue (x : Nat) : (s.setFreeCount x).queue = s.queue := rfl
@[simp] theorem State.setFreeCount_holds (x : Nat) : (s.setFreeCount x).holds = s.holds := rfl
@[simp] theorem State.setFreeCount_plan (x : Nat) : (s.setFreeCount x).plan = s.plan := rfl
@[simp] theorem State.setFreeCount_spout (x : Nat) : (s.setFreeCount x).spout = s.spout := rfl
@[simp] theorem State.setFreeCount_dust (x : Nat) : (s.setFreeCount x).dust = s.dust := rfl
@[simp] theorem State.setFreeCount_gate (x : Nat) : (s.setFreeCount x).gate = s.gate := rfl
@[simp] theorem State.setFreeCount_contacts (x : Nat) : (s.setFreeCount x).contacts = s.contacts := rfl
@[simp] theorem State.setFreeCount_bills (x : Nat) : (s.setFreeCount x).bills = s.bills := rfl
@[simp] theorem State.setFreeCount_loop (x : Nat) : (s.setFreeCount x).loop = s.loop := rfl
@[simp] theorem State.setFreeCount_service (x : Nat) : (s.setFreeCount x).service = s.service := rfl
@[simp] theorem State.setFreeCount_notices (x : Nat) : (s.setFreeCount x).notices = s.notices := rfl
@[simp] theorem State.setFreeCount_modes (x : Nat) : (s.setFreeCount x).modes = s.modes := rfl
@[simp] theorem State.setFreeCount_pins (x : Nat) : (s.setFreeCount x).pins = s.pins := rfl
@[simp] theorem State.setFreeCount_came (x : Nat) : (s.setFreeCount x).came = s.came := rfl
@[simp] theorem State.setFreeCount_freeCount (x : Nat) : (s.setFreeCount x).freeCount = x := rfl
@[simp] theorem State.setFreeCount_pending (x : Nat) : (s.setFreeCount x).pending = s.pending := rfl

/-! ### `setPending` -/

@[simp] theorem State.setPending_weigher (x : List Instr) : (s.setPending x).weigher = s.weigher := rfl
@[simp] theorem State.setPending_queue (x : List Instr) : (s.setPending x).queue = s.queue := rfl
@[simp] theorem State.setPending_holds (x : List Instr) : (s.setPending x).holds = s.holds := rfl
@[simp] theorem State.setPending_plan (x : List Instr) : (s.setPending x).plan = s.plan := rfl
@[simp] theorem State.setPending_spout (x : List Instr) : (s.setPending x).spout = s.spout := rfl
@[simp] theorem State.setPending_dust (x : List Instr) : (s.setPending x).dust = s.dust := rfl
@[simp] theorem State.setPending_gate (x : List Instr) : (s.setPending x).gate = s.gate := rfl
@[simp] theorem State.setPending_contacts (x : List Instr) : (s.setPending x).contacts = s.contacts := rfl
@[simp] theorem State.setPending_bills (x : List Instr) : (s.setPending x).bills = s.bills := rfl
@[simp] theorem State.setPending_loop (x : List Instr) : (s.setPending x).loop = s.loop := rfl
@[simp] theorem State.setPending_service (x : List Instr) : (s.setPending x).service = s.service := rfl
@[simp] theorem State.setPending_notices (x : List Instr) : (s.setPending x).notices = s.notices := rfl
@[simp] theorem State.setPending_modes (x : List Instr) : (s.setPending x).modes = s.modes := rfl
@[simp] theorem State.setPending_pins (x : List Instr) : (s.setPending x).pins = s.pins := rfl
@[simp] theorem State.setPending_came (x : List Instr) : (s.setPending x).came = s.came := rfl
@[simp] theorem State.setPending_freeCount (x : List Instr) : (s.setPending x).freeCount = s.freeCount := rfl
@[simp] theorem State.setPending_pending (x : List Instr) : (s.setPending x).pending = x := rfl

end Sys2Proof.Machine
end

