-- ==== Sys2Proof/Laws/Frames.lean ====
section
/-! SUPPORT. What each shared operation leaves as it is: one lemma for each operation, naming the groups of the state
that it does not touch, whatever the state it starts from. -/

namespace Sys2Proof.Machine

variable (s : State)

@[simp] theorem State.begin_frame :
    s.begin.weigher = s.weigher ∧ s.begin.queue = s.queue ∧ s.begin.holds = s.holds ∧
    s.begin.plan = s.plan ∧ s.begin.spout = s.spout ∧ s.begin.dust = s.dust ∧
    s.begin.gate = s.gate ∧ s.begin.contacts = s.contacts ∧ s.begin.bills = s.bills ∧
    s.begin.loop = s.loop ∧ s.begin.service = s.service ∧ s.begin.notices = s.notices ∧
    s.begin.modes = s.modes ∧ s.begin.pins = s.pins ∧ s.begin.freeCount = s.freeCount ∧
    s.begin.pending = s.pending := by
  simp [State.begin]

@[simp] theorem State.finish_frame :
    s.finish.weigher = s.weigher ∧ s.finish.queue = s.queue ∧ s.finish.holds = s.holds ∧
    s.finish.plan = s.plan ∧ s.finish.spout = s.spout ∧ s.finish.dust = s.dust ∧
    s.finish.gate = s.gate ∧ s.finish.contacts = s.contacts ∧ s.finish.bills = s.bills ∧
    s.finish.loop = s.loop ∧ s.finish.service = s.service ∧ s.finish.modes = s.modes ∧
    s.finish.pins = s.pins ∧ s.finish.freeCount = s.freeCount ∧ s.finish.pending = s.pending := by
  simp [State.finish]

@[simp] theorem State.note_frame (o : Occurrence) :
    (s.note o).weigher = s.weigher ∧ (s.note o).queue = s.queue ∧ (s.note o).holds = s.holds ∧
    (s.note o).plan = s.plan ∧ (s.note o).spout = s.spout ∧ (s.note o).dust = s.dust ∧
    (s.note o).gate = s.gate ∧ (s.note o).contacts = s.contacts ∧ (s.note o).bills = s.bills ∧
    (s.note o).loop = s.loop ∧ (s.note o).service = s.service ∧ (s.note o).notices = s.notices ∧
    (s.note o).modes = s.modes ∧ (s.note o).pins = s.pins ∧ (s.note o).freeCount = s.freeCount ∧
    (s.note o).pending = s.pending := by
  simp [State.note]

@[simp] theorem State.draw_frame :
    s.draw.2.weigher = s.weigher ∧ s.draw.2.queue = s.queue ∧ s.draw.2.holds = s.holds ∧
    s.draw.2.plan = s.plan ∧ s.draw.2.spout = s.spout ∧ s.draw.2.dust = s.dust ∧
    s.draw.2.gate = s.gate ∧ s.draw.2.contacts = s.contacts ∧ s.draw.2.bills = s.bills ∧
    s.draw.2.loop = s.loop ∧ s.draw.2.service = s.service ∧ s.draw.2.notices = s.notices ∧
    s.draw.2.modes = s.modes ∧ s.draw.2.pins = s.pins ∧ s.draw.2.came = s.came ∧
    s.draw.2.pending = s.pending := by
  simp [State.draw]

@[simp] theorem State.taken_frame (b : SampleBinding) :
    (s.taken b).weigher = s.weigher ∧ (s.taken b).queue = s.queue ∧ (s.taken b).holds = s.holds ∧
    (s.taken b).plan = s.plan ∧ (s.taken b).spout = s.spout ∧ (s.taken b).dust = s.dust ∧
    (s.taken b).gate = s.gate ∧ (s.taken b).contacts = s.contacts ∧ (s.taken b).bills = s.bills ∧
    (s.taken b).service = s.service ∧ (s.taken b).notices = s.notices ∧
    (s.taken b).modes = s.modes ∧ (s.taken b).pins = s.pins ∧ (s.taken b).came = s.came ∧
    (s.taken b).freeCount = s.freeCount ∧ (s.taken b).pending = s.pending := by
  simp [State.taken]

@[simp] theorem State.raiseNotice_frame (e : Event) :
    (s.raiseNotice e).weigher = s.weigher ∧ (s.raiseNotice e).queue = s.queue ∧
    (s.raiseNotice e).holds = s.holds ∧ (s.raiseNotice e).plan = s.plan ∧
    (s.raiseNotice e).spout = s.spout ∧ (s.raiseNotice e).dust = s.dust ∧
    (s.raiseNotice e).gate = s.gate ∧ (s.raiseNotice e).contacts = s.contacts ∧
    (s.raiseNotice e).bills = s.bills ∧ (s.raiseNotice e).loop = s.loop ∧
    (s.raiseNotice e).service = s.service ∧ (s.raiseNotice e).modes = s.modes ∧
    (s.raiseNotice e).pins = s.pins ∧ (s.raiseNotice e).freeCount = s.freeCount ∧
    (s.raiseNotice e).pending = s.pending := by
  simp [State.raiseNotice]

@[simp] theorem State.raiseZoneNotice_frame (z : ZoneNo) (t : ZoneState) (x : Zone) :
    (s.raiseZoneNotice z t x).weigher = s.weigher ∧ (s.raiseZoneNotice z t x).queue = s.queue ∧
    (s.raiseZoneNotice z t x).holds = s.holds ∧ (s.raiseZoneNotice z t x).plan = s.plan ∧
    (s.raiseZoneNotice z t x).spout = s.spout ∧ (s.raiseZoneNotice z t x).dust = s.dust ∧
    (s.raiseZoneNotice z t x).gate = s.gate ∧ (s.raiseZoneNotice z t x).contacts = s.contacts ∧
    (s.raiseZoneNotice z t x).bills = s.bills ∧ (s.raiseZoneNotice z t x).loop = s.loop ∧
    (s.raiseZoneNotice z t x).service = s.service ∧ (s.raiseZoneNotice z t x).modes = s.modes ∧
    (s.raiseZoneNotice z t x).pins = s.pins ∧ (s.raiseZoneNotice z t x).freeCount = s.freeCount ∧
    (s.raiseZoneNotice z t x).pending = s.pending := by
  simp [State.raiseZoneNotice]

@[simp] theorem State.formReply_frame (c : Byte) (p : List Byte) (a : Answer) :
    (s.formReply c p a).weigher = s.weigher ∧ (s.formReply c p a).queue = s.queue ∧
    (s.formReply c p a).holds = s.holds ∧ (s.formReply c p a).plan = s.plan ∧
    (s.formReply c p a).spout = s.spout ∧ (s.formReply c p a).dust = s.dust ∧
    (s.formReply c p a).gate = s.gate ∧ (s.formReply c p a).contacts = s.contacts ∧
    (s.formReply c p a).bills = s.bills ∧ (s.formReply c p a).loop = s.loop ∧
    (s.formReply c p a).notices = s.notices ∧ (s.formReply c p a).modes = s.modes ∧
    (s.formReply c p a).pins = s.pins ∧ (s.formReply c p a).came = s.came ∧
    (s.formReply c p a).freeCount = s.freeCount ∧ (s.formReply c p a).pending = s.pending := by
  simp [State.formReply]

@[simp] theorem State.overrunRequest_frame :
    s.overrunRequest.weigher = s.weigher ∧ s.overrunRequest.queue = s.queue ∧
    s.overrunRequest.holds = s.holds ∧ s.overrunRequest.plan = s.plan ∧
    s.overrunRequest.spout = s.spout ∧ s.overrunRequest.dust = s.dust ∧
    s.overrunRequest.gate = s.gate ∧ s.overrunRequest.contacts = s.contacts ∧
    s.overrunRequest.bills = s.bills ∧ s.overrunRequest.loop = s.loop ∧
    s.overrunRequest.notices = s.notices ∧ s.overrunRequest.modes = s.modes ∧
    s.overrunRequest.pins = s.pins ∧ s.overrunRequest.came = s.came ∧
    s.overrunRequest.freeCount = s.freeCount ∧ s.overrunRequest.pending = s.pending := by
  simp [State.overrunRequest]

@[simp] theorem State.modifyBill_frame (n : BillNo) (f : Lot → Lot) :
    (s.modifyBill n f).weigher = s.weigher ∧ (s.modifyBill n f).queue = s.queue ∧
    (s.modifyBill n f).holds = s.holds ∧ (s.modifyBill n f).plan = s.plan ∧
    (s.modifyBill n f).spout = s.spout ∧ (s.modifyBill n f).dust = s.dust ∧
    (s.modifyBill n f).gate = s.gate ∧ (s.modifyBill n f).contacts = s.contacts ∧
    (s.modifyBill n f).loop = s.loop ∧ (s.modifyBill n f).service = s.service ∧
    (s.modifyBill n f).notices = s.notices ∧ (s.modifyBill n f).modes = s.modes ∧
    (s.modifyBill n f).pins = s.pins ∧ (s.modifyBill n f).came = s.came ∧
    (s.modifyBill n f).freeCount = s.freeCount ∧ (s.modifyBill n f).pending = s.pending := by
  simp [State.modifyBill]

@[simp] theorem State.countRestarts_frame :
    s.countRestarts.weigher = s.weigher ∧ s.countRestarts.queue = s.queue ∧
    s.countRestarts.holds = s.holds ∧ s.countRestarts.plan = s.plan ∧
    s.countRestarts.spout = s.spout ∧ s.countRestarts.dust = s.dust ∧
    s.countRestarts.gate = s.gate ∧ s.countRestarts.contacts = s.contacts ∧
    s.countRestarts.loop = s.loop ∧ s.countRestarts.service = s.service ∧
    s.countRestarts.notices = s.notices ∧ s.countRestarts.modes = s.modes ∧
    s.countRestarts.pins = s.pins ∧ s.countRestarts.came = s.came ∧
    s.countRestarts.freeCount = s.freeCount ∧ s.countRestarts.pending = s.pending := by
  simp [State.countRestarts]

@[simp] theorem State.setPlanState_frame (p : PlanState) :
    (s.setPlanState p).weigher = s.weigher ∧ (s.setPlanState p).queue = s.queue ∧
    (s.setPlanState p).holds = s.holds ∧ (s.setPlanState p).spout = s.spout ∧
    (s.setPlanState p).dust = s.dust ∧ (s.setPlanState p).gate = s.gate ∧
    (s.setPlanState p).contacts = s.contacts ∧ (s.setPlanState p).bills = s.bills ∧
    (s.setPlanState p).loop = s.loop ∧ (s.setPlanState p).service = s.service ∧
    (s.setPlanState p).notices = s.notices ∧ (s.setPlanState p).modes = s.modes ∧
    (s.setPlanState p).pins = s.pins ∧ (s.setPlanState p).came = s.came ∧
    (s.setPlanState p).freeCount = s.freeCount ∧ (s.setPlanState p).pending = s.pending := by
  simp [State.setPlanState]

@[simp] theorem State.setStopSet_frame (r : ReasonSet) :
    (s.setStopSet r).weigher = s.weigher ∧ (s.setStopSet r).queue = s.queue ∧
    (s.setStopSet r).holds = s.holds ∧ (s.setStopSet r).plan = s.plan ∧
    (s.setStopSet r).spout = s.spout ∧ (s.setStopSet r).dust = s.dust ∧
    (s.setStopSet r).contacts = s.contacts ∧ (s.setStopSet r).bills = s.bills ∧
    (s.setStopSet r).loop = s.loop ∧ (s.setStopSet r).service = s.service ∧
    (s.setStopSet r).notices = s.notices ∧ (s.setStopSet r).modes = s.modes ∧
    (s.setStopSet r).pins = s.pins ∧ (s.setStopSet r).came = s.came ∧
    (s.setStopSet r).freeCount = s.freeCount ∧ (s.setStopSet r).pending = s.pending := by
  simp [State.setStopSet]

@[simp] theorem State.raisePlan_frame :
    s.raisePlan.weigher = s.weigher ∧ s.raisePlan.queue = s.queue ∧ s.raisePlan.holds = s.holds ∧
    s.raisePlan.plan = s.plan ∧ s.raisePlan.spout = s.spout ∧ s.raisePlan.dust = s.dust ∧
    s.raisePlan.contacts = s.contacts ∧ s.raisePlan.bills = s.bills ∧ s.raisePlan.loop = s.loop ∧
    s.raisePlan.service = s.service ∧ s.raisePlan.notices = s.notices ∧
    s.raisePlan.modes = s.modes ∧ s.raisePlan.pins = s.pins ∧ s.raisePlan.came = s.came ∧
    s.raisePlan.freeCount = s.freeCount ∧ s.raisePlan.pending = s.pending := by
  simp [State.raisePlan]

@[simp] theorem State.clearPlan_frame :
    s.clearPlan.weigher = s.weigher ∧ s.clearPlan.queue = s.queue ∧ s.clearPlan.holds = s.holds ∧
    s.clearPlan.plan = s.plan ∧ s.clearPlan.spout = s.spout ∧ s.clearPlan.dust = s.dust ∧
    s.clearPlan.contacts = s.contacts ∧ s.clearPlan.bills = s.bills ∧ s.clearPlan.loop = s.loop ∧
    s.clearPlan.service = s.service ∧ s.clearPlan.notices = s.notices ∧
    s.clearPlan.modes = s.modes ∧ s.clearPlan.pins = s.pins ∧ s.clearPlan.came = s.came ∧
    s.clearPlan.freeCount = s.freeCount ∧ s.clearPlan.pending = s.pending := by
  simp [State.clearPlan]

@[simp] theorem State.modifyActive_frame (f : Step → Step) :
    (s.modifyActive f).weigher = s.weigher ∧ (s.modifyActive f).queue = s.queue ∧
    (s.modifyActive f).holds = s.holds ∧ (s.modifyActive f).spout = s.spout ∧
    (s.modifyActive f).dust = s.dust ∧ (s.modifyActive f).gate = s.gate ∧
    (s.modifyActive f).contacts = s.contacts ∧ (s.modifyActive f).bills = s.bills ∧
    (s.modifyActive f).loop = s.loop ∧ (s.modifyActive f).service = s.service ∧
    (s.modifyActive f).notices = s.notices ∧ (s.modifyActive f).modes = s.modes ∧
    (s.modifyActive f).pins = s.pins ∧ (s.modifyActive f).came = s.came ∧
    (s.modifyActive f).freeCount = s.freeCount ∧ (s.modifyActive f).pending = s.pending := by
  simp [State.modifyActive]

@[simp] theorem State.planNotice_frame (e : PlanEvent) :
    (s.planNotice e).weigher = s.weigher ∧ (s.planNotice e).queue = s.queue ∧
    (s.planNotice e).holds = s.holds ∧ (s.planNotice e).plan = s.plan ∧
    (s.planNotice e).spout = s.spout ∧ (s.planNotice e).dust = s.dust ∧
    (s.planNotice e).gate = s.gate ∧ (s.planNotice e).contacts = s.contacts ∧
    (s.planNotice e).bills = s.bills ∧ (s.planNotice e).loop = s.loop ∧
    (s.planNotice e).service = s.service ∧ (s.planNotice e).modes = s.modes ∧
    (s.planNotice e).pins = s.pins ∧ (s.planNotice e).freeCount = s.freeCount ∧
    (s.planNotice e).pending = s.pending := by
  simp [State.planNotice]

@[simp] theorem State.deferClose_frame :
    s.deferClose.weigher = s.weigher ∧ s.deferClose.holds = s.holds ∧ s.deferClose.plan = s.plan ∧
    s.deferClose.spout = s.spout ∧ s.deferClose.dust = s.dust ∧ s.deferClose.gate = s.gate ∧
    s.deferClose.contacts = s.contacts ∧ s.deferClose.bills = s.bills ∧
    s.deferClose.loop = s.loop ∧ s.deferClose.service = s.service ∧ s.deferClose.modes = s.modes ∧
    s.deferClose.pins = s.pins ∧ s.deferClose.freeCount = s.freeCount ∧
    s.deferClose.pending = s.pending := by
  simp only [State.deferClose]
  (repeat' split) <;> simp

@[simp] theorem State.tagChanged_frame :
    s.tagChanged.weigher = s.weigher ∧ s.tagChanged.holds = s.holds ∧ s.tagChanged.plan = s.plan ∧
    s.tagChanged.spout = s.spout ∧ s.tagChanged.dust = s.dust ∧ s.tagChanged.gate = s.gate ∧
    s.tagChanged.contacts = s.contacts ∧ s.tagChanged.bills = s.bills ∧
    s.tagChanged.loop = s.loop ∧ s.tagChanged.service = s.service ∧ s.tagChanged.modes = s.modes ∧
    s.tagChanged.pins = s.pins ∧ s.tagChanged.freeCount = s.freeCount ∧
    s.tagChanged.pending = s.pending := by
  simp only [State.tagChanged]
  (repeat' split) <;> simp

@[simp] theorem State.setTag_frame (t : Option BillNo) :
    (s.setTag t).holds = s.holds ∧ (s.setTag t).plan = s.plan ∧ (s.setTag t).spout = s.spout ∧
    (s.setTag t).dust = s.dust ∧ (s.setTag t).gate = s.gate ∧ (s.setTag t).contacts = s.contacts ∧
    (s.setTag t).bills = s.bills ∧ (s.setTag t).loop = s.loop ∧ (s.setTag t).service = s.service ∧
    (s.setTag t).modes = s.modes ∧ (s.setTag t).pins = s.pins ∧
    (s.setTag t).freeCount = s.freeCount ∧ (s.setTag t).pending = s.pending := by
  simp only [State.setTag]
  (repeat' split) <;> simp

@[simp] theorem State.estimatedChanged_frame :
    s.estimatedChanged.weigher = s.weigher ∧ s.estimatedChanged.holds = s.holds ∧
    s.estimatedChanged.plan = s.plan ∧ s.estimatedChanged.spout = s.spout ∧
    s.estimatedChanged.dust = s.dust ∧ s.estimatedChanged.gate = s.gate ∧
    s.estimatedChanged.contacts = s.contacts ∧ s.estimatedChanged.bills = s.bills ∧
    s.estimatedChanged.loop = s.loop ∧ s.estimatedChanged.service = s.service ∧
    s.estimatedChanged.modes = s.modes ∧ s.estimatedChanged.pins = s.pins ∧
    s.estimatedChanged.freeCount = s.freeCount ∧ s.estimatedChanged.pending = s.pending := by
  simp only [State.estimatedChanged]
  (repeat' split) <;> simp

@[simp] theorem State.setEstimated_frame (e : Bool) :
    (s.setEstimated e).holds = s.holds ∧ (s.setEstimated e).plan = s.plan ∧
    (s.setEstimated e).spout = s.spout ∧ (s.setEstimated e).dust = s.dust ∧
    (s.setEstimated e).gate = s.gate ∧ (s.setEstimated e).contacts = s.contacts ∧
    (s.setEstimated e).bills = s.bills ∧ (s.setEstimated e).loop = s.loop ∧
    (s.setEstimated e).service = s.service ∧ (s.setEstimated e).modes = s.modes ∧
    (s.setEstimated e).pins = s.pins ∧ (s.setEstimated e).freeCount = s.freeCount ∧
    (s.setEstimated e).pending = s.pending := by
  simp only [State.setEstimated]
  (repeat' split) <;> simp

@[simp] theorem State.ensureOpen_frame (before : Count32) :
    (s.ensureOpen before).weigher = s.weigher ∧ (s.ensureOpen before).holds = s.holds ∧
    (s.ensureOpen before).plan = s.plan ∧ (s.ensureOpen before).spout = s.spout ∧
    (s.ensureOpen before).dust = s.dust ∧ (s.ensureOpen before).gate = s.gate ∧
    (s.ensureOpen before).contacts = s.contacts ∧ (s.ensureOpen before).bills = s.bills ∧
    (s.ensureOpen before).loop = s.loop ∧ (s.ensureOpen before).service = s.service ∧
    (s.ensureOpen before).notices = s.notices ∧ (s.ensureOpen before).modes = s.modes ∧
    (s.ensureOpen before).pins = s.pins ∧ (s.ensureOpen before).came = s.came ∧
    (s.ensureOpen before).freeCount = s.freeCount ∧ (s.ensureOpen before).pending = s.pending := by
  simp only [State.ensureOpen]
  (repeat' split) <;> simp

@[simp] theorem State.chargeLot_frame (l : Option BillNo) (k : Nat) :
    (s.chargeLot l k).queue = s.queue ∧ (s.chargeLot l k).holds = s.holds ∧
    (s.chargeLot l k).plan = s.plan ∧ (s.chargeLot l k).spout = s.spout ∧
    (s.chargeLot l k).dust = s.dust ∧ (s.chargeLot l k).gate = s.gate ∧
    (s.chargeLot l k).contacts = s.contacts ∧ (s.chargeLot l k).loop = s.loop ∧
    (s.chargeLot l k).service = s.service ∧ (s.chargeLot l k).notices = s.notices ∧
    (s.chargeLot l k).modes = s.modes ∧ (s.chargeLot l k).pins = s.pins ∧
    (s.chargeLot l k).came = s.came ∧ (s.chargeLot l k).freeCount = s.freeCount ∧
    (s.chargeLot l k).pending = s.pending := by
  simp only [State.chargeLot]
  (repeat' split) <;> simp

@[simp] theorem State.carry_frame (before : Count32) (k : Nat) :
    (s.carry before k).holds = s.holds ∧ (s.carry before k).plan = s.plan ∧
    (s.carry before k).spout = s.spout ∧ (s.carry before k).dust = s.dust ∧
    (s.carry before k).gate = s.gate ∧ (s.carry before k).contacts = s.contacts ∧
    (s.carry before k).loop = s.loop ∧ (s.carry before k).service = s.service ∧
    (s.carry before k).notices = s.notices ∧ (s.carry before k).modes = s.modes ∧
    (s.carry before k).pins = s.pins ∧ (s.carry before k).came = s.came ∧
    (s.carry before k).freeCount = s.freeCount ∧ (s.carry before k).pending = s.pending := by
  simp only [State.carry]
  (repeat' split) <;> simp

@[simp] theorem State.makeDeferredClose_frame :
    s.makeDeferredClose.weigher = s.weigher ∧ s.makeDeferredClose.holds = s.holds ∧
    s.makeDeferredClose.plan = s.plan ∧ s.makeDeferredClose.spout = s.spout ∧
    s.makeDeferredClose.dust = s.dust ∧ s.makeDeferredClose.gate = s.gate ∧
    s.makeDeferredClose.contacts = s.contacts ∧ s.makeDeferredClose.bills = s.bills ∧
    s.makeDeferredClose.loop = s.loop ∧ s.makeDeferredClose.service = s.service ∧
    s.makeDeferredClose.notices = s.notices ∧ s.makeDeferredClose.modes = s.modes ∧
    s.makeDeferredClose.pins = s.pins ∧ s.makeDeferredClose.freeCount = s.freeCount ∧
    s.makeDeferredClose.pending = s.pending := by
  simp only [State.makeDeferredClose]
  (repeat' split) <;> simp

@[simp] theorem State.segmentTest_frame :
    s.segmentTest.weigher = s.weigher ∧ s.segmentTest.holds = s.holds ∧
    s.segmentTest.plan = s.plan ∧ s.segmentTest.spout = s.spout ∧ s.segmentTest.dust = s.dust ∧
    s.segmentTest.gate = s.gate ∧ s.segmentTest.contacts = s.contacts ∧
    s.segmentTest.bills = s.bills ∧ s.segmentTest.loop = s.loop ∧
    s.segmentTest.service = s.service ∧ s.segmentTest.modes = s.modes ∧
    s.segmentTest.pins = s.pins ∧ s.segmentTest.freeCount = s.freeCount ∧
    s.segmentTest.pending = s.pending := by
  simp only [State.segmentTest]
  (repeat' split) <;> simp

@[simp] theorem State.unresolveParcel_frame (p : Parcel) :
    (s.unresolveParcel p).weigher = s.weigher ∧ (s.unresolveParcel p).queue = s.queue ∧
    (s.unresolveParcel p).holds = s.holds ∧ (s.unresolveParcel p).plan = s.plan ∧
    (s.unresolveParcel p).spout = s.spout ∧ (s.unresolveParcel p).dust = s.dust ∧
    (s.unresolveParcel p).gate = s.gate ∧ (s.unresolveParcel p).contacts = s.contacts ∧
    (s.unresolveParcel p).loop = s.loop ∧ (s.unresolveParcel p).service = s.service ∧
    (s.unresolveParcel p).notices = s.notices ∧ (s.unresolveParcel p).modes = s.modes ∧
    (s.unresolveParcel p).pins = s.pins ∧ (s.unresolveParcel p).came = s.came ∧
    (s.unresolveParcel p).freeCount = s.freeCount ∧ (s.unresolveParcel p).pending = s.pending := by
  simp only [State.unresolveParcel]
  (repeat' split) <;> simp

@[simp] theorem State.testGate_frame :
    s.testGate.weigher = s.weigher ∧ s.testGate.queue = s.queue ∧ s.testGate.holds = s.holds ∧
    s.testGate.spout = s.spout ∧ s.testGate.dust = s.dust ∧ s.testGate.gate = s.gate ∧
    s.testGate.contacts = s.contacts ∧ s.testGate.bills = s.bills ∧ s.testGate.loop = s.loop ∧
    s.testGate.service = s.service ∧ s.testGate.modes = s.modes ∧ s.testGate.pins = s.pins ∧
    s.testGate.freeCount = s.freeCount ∧ s.testGate.pending = s.pending := by
  simp only [State.testGate]
  (repeat' split) <;> simp

@[simp] theorem State.enterStopping_frame (c : StopCause) :
    (s.enterStopping c).weigher = s.weigher ∧ (s.enterStopping c).queue = s.queue ∧
    (s.enterStopping c).holds = s.holds ∧ (s.enterStopping c).spout = s.spout ∧
    (s.enterStopping c).dust = s.dust ∧ (s.enterStopping c).contacts = s.contacts ∧
    (s.enterStopping c).bills = s.bills ∧ (s.enterStopping c).loop = s.loop ∧
    (s.enterStopping c).service = s.service ∧ (s.enterStopping c).modes = s.modes ∧
    (s.enterStopping c).pins = s.pins ∧ (s.enterStopping c).freeCount = s.freeCount ∧
    (s.enterStopping c).pending = s.pending := by
  simp only [State.enterStopping]
  (repeat' split) <;> simp

@[simp] theorem State.countDustStop_frame :
    s.countDustStop.weigher = s.weigher ∧ s.countDustStop.queue = s.queue ∧
    s.countDustStop.holds = s.holds ∧ s.countDustStop.plan = s.plan ∧
    s.countDustStop.spout = s.spout ∧ s.countDustStop.dust = s.dust ∧
    s.countDustStop.gate = s.gate ∧ s.countDustStop.contacts = s.contacts ∧
    s.countDustStop.loop = s.loop ∧ s.countDustStop.service = s.service ∧
    s.countDustStop.notices = s.notices ∧ s.countDustStop.modes = s.modes ∧
    s.countDustStop.pins = s.pins ∧ s.countDustStop.came = s.came ∧
    s.countDustStop.freeCount = s.freeCount ∧ s.countDustStop.pending = s.pending := by
  simp only [State.countDustStop]
  (repeat' split) <;> simp

@[simp] theorem State.enterInterrupted_frame :
    s.enterInterrupted.weigher = s.weigher ∧ s.enterInterrupted.queue = s.queue ∧
    s.enterInterrupted.holds = s.holds ∧ s.enterInterrupted.spout = s.spout ∧
    s.enterInterrupted.dust = s.dust ∧ s.enterInterrupted.contacts = s.contacts ∧
    s.enterInterrupted.loop = s.loop ∧ s.enterInterrupted.service = s.service ∧
    s.enterInterrupted.modes = s.modes ∧ s.enterInterrupted.pins = s.pins ∧
    s.enterInterrupted.freeCount = s.freeCount ∧ s.enterInterrupted.pending = s.pending := by
  simp only [State.enterInterrupted]
  (repeat' split) <;> simp

@[simp] theorem State.enterPouring_frame (t : Bool) :
    (s.enterPouring t).holds = s.holds ∧ (s.enterPouring t).spout = s.spout ∧
    (s.enterPouring t).dust = s.dust ∧ (s.enterPouring t).contacts = s.contacts ∧
    (s.enterPouring t).loop = s.loop ∧ (s.enterPouring t).service = s.service ∧
    (s.enterPouring t).modes = s.modes ∧ (s.enterPouring t).pins = s.pins ∧
    (s.enterPouring t).freeCount = s.freeCount ∧ (s.enterPouring t).pending = s.pending := by
  simp only [State.enterPouring]
  (repeat' split) <;> simp

@[simp] theorem State.enterWaitProceed_frame :
    s.enterWaitProceed.weigher = s.weigher ∧ s.enterWaitProceed.queue = s.queue ∧
    s.enterWaitProceed.holds = s.holds ∧ s.enterWaitProceed.spout = s.spout ∧
    s.enterWaitProceed.dust = s.dust ∧ s.enterWaitProceed.gate = s.gate ∧
    s.enterWaitProceed.contacts = s.contacts ∧ s.enterWaitProceed.bills = s.bills ∧
    s.enterWaitProceed.loop = s.loop ∧ s.enterWaitProceed.service = s.service ∧
    s.enterWaitProceed.modes = s.modes ∧ s.enterWaitProceed.pins = s.pins ∧
    s.enterWaitProceed.freeCount = s.freeCount ∧ s.enterWaitProceed.pending = s.pending := by
  simp only [State.enterWaitProceed]
  (repeat' split) <;> simp

@[simp] theorem State.addKind_frame (r : StopReason) :
    (s.addKind r).weigher = s.weigher ∧ (s.addKind r).queue = s.queue ∧
    (s.addKind r).holds = s.holds ∧ (s.addKind r).spout = s.spout ∧ (s.addKind r).dust = s.dust ∧
    (s.addKind r).gate = s.gate ∧ (s.addKind r).contacts = s.contacts ∧
    (s.addKind r).loop = s.loop ∧ (s.addKind r).service = s.service ∧
    (s.addKind r).notices = s.notices ∧ (s.addKind r).modes = s.modes ∧
    (s.addKind r).pins = s.pins ∧ (s.addKind r).came = s.came ∧
    (s.addKind r).freeCount = s.freeCount ∧ (s.addKind r).pending = s.pending := by
  simp only [State.addKind]
  (repeat' split) <;> simp

@[simp] theorem State.planReasonRaised_frame (r : StopReason) :
    (s.planReasonRaised r).weigher = s.weigher ∧ (s.planReasonRaised r).queue = s.queue ∧
    (s.planReasonRaised r).holds = s.holds ∧ (s.planReasonRaised r).spout = s.spout ∧
    (s.planReasonRaised r).dust = s.dust ∧ (s.planReasonRaised r).contacts = s.contacts ∧
    (s.planReasonRaised r).loop = s.loop ∧ (s.planReasonRaised r).service = s.service ∧
    (s.planReasonRaised r).modes = s.modes ∧ (s.planReasonRaised r).pins = s.pins ∧
    (s.planReasonRaised r).freeCount = s.freeCount ∧ (s.planReasonRaised r).pending = s.pending := by
  simp only [State.planReasonRaised]
  (repeat' split) <;> simp

@[simp] theorem State.endInterruption_frame :
    s.endInterruption.holds = s.holds ∧ s.endInterruption.spout = s.spout ∧
    s.endInterruption.dust = s.dust ∧ s.endInterruption.contacts = s.contacts ∧
    s.endInterruption.loop = s.loop ∧ s.endInterruption.service = s.service ∧
    s.endInterruption.modes = s.modes ∧ s.endInterruption.pins = s.pins ∧
    s.endInterruption.freeCount = s.freeCount ∧ s.endInterruption.pending = s.pending := by
  simp only [State.endInterruption]
  (repeat' split) <;> simp

@[simp] theorem State.planReasonCleared_frame :
    s.planReasonCleared.holds = s.holds ∧ s.planReasonCleared.spout = s.spout ∧
    s.planReasonCleared.dust = s.dust ∧ s.planReasonCleared.contacts = s.contacts ∧
    s.planReasonCleared.loop = s.loop ∧ s.planReasonCleared.service = s.service ∧
    s.planReasonCleared.modes = s.modes ∧ s.planReasonCleared.pins = s.pins ∧
    s.planReasonCleared.freeCount = s.freeCount ∧ s.planReasonCleared.pending = s.pending := by
  simp only [State.planReasonCleared]
  (repeat' split) <;> simp

@[simp] theorem State.raiseReason_frame (r : StopReason) :
    (s.raiseReason r).weigher = s.weigher ∧ (s.raiseReason r).queue = s.queue ∧
    (s.raiseReason r).holds = s.holds ∧ (s.raiseReason r).spout = s.spout ∧
    (s.raiseReason r).dust = s.dust ∧ (s.raiseReason r).contacts = s.contacts ∧
    (s.raiseReason r).loop = s.loop ∧ (s.raiseReason r).service = s.service ∧
    (s.raiseReason r).modes = s.modes ∧ (s.raiseReason r).pins = s.pins ∧
    (s.raiseReason r).freeCount = s.freeCount ∧ (s.raiseReason r).pending = s.pending := by
  simp only [State.raiseReason]
  (repeat' split) <;> simp

@[simp] theorem State.clearReason_frame (r : StopReason) :
    (s.clearReason r).holds = s.holds ∧ (s.clearReason r).spout = s.spout ∧
    (s.clearReason r).dust = s.dust ∧ (s.clearReason r).contacts = s.contacts ∧
    (s.clearReason r).loop = s.loop ∧ (s.clearReason r).service = s.service ∧
    (s.clearReason r).modes = s.modes ∧ (s.clearReason r).pins = s.pins ∧
    (s.clearReason r).freeCount = s.freeCount ∧ (s.clearReason r).pending = s.pending := by
  simp only [State.clearReason]
  (repeat' split) <;> simp

@[simp] theorem State.setReason_frame (r : StopReason) (b : Bool) :
    (s.setReason r b).holds = s.holds ∧ (s.setReason r b).spout = s.spout ∧
    (s.setReason r b).dust = s.dust ∧ (s.setReason r b).contacts = s.contacts ∧
    (s.setReason r b).loop = s.loop ∧ (s.setReason r b).service = s.service ∧
    (s.setReason r b).modes = s.modes ∧ (s.setReason r b).pins = s.pins ∧
    (s.setReason r b).freeCount = s.freeCount ∧ (s.setReason r b).pending = s.pending := by
  simp only [State.setReason]
  (repeat' split) <;> simp

@[simp] theorem State.planCarry_frame :
    s.planCarry.weigher = s.weigher ∧ s.planCarry.queue = s.queue ∧ s.planCarry.holds = s.holds ∧
    s.planCarry.spout = s.spout ∧ s.planCarry.dust = s.dust ∧ s.planCarry.contacts = s.contacts ∧
    s.planCarry.bills = s.bills ∧ s.planCarry.loop = s.loop ∧ s.planCarry.service = s.service ∧
    s.planCarry.modes = s.modes ∧ s.planCarry.pins = s.pins ∧ s.planCarry.freeCount = s.freeCount ∧
    s.planCarry.pending = s.pending := by
  simp only [State.planCarry]
  (repeat' split) <;> simp

@[simp] theorem State.planCredit_frame :
    s.planCredit.weigher = s.weigher ∧ s.planCredit.queue = s.queue ∧
    s.planCredit.holds = s.holds ∧ s.planCredit.spout = s.spout ∧ s.planCredit.dust = s.dust ∧
    s.planCredit.contacts = s.contacts ∧ s.planCredit.bills = s.bills ∧
    s.planCredit.loop = s.loop ∧ s.planCredit.service = s.service ∧ s.planCredit.modes = s.modes ∧
    s.planCredit.pins = s.pins ∧ s.planCredit.freeCount = s.freeCount ∧
    s.planCredit.pending = s.pending := by
  simp only [State.planCredit]
  (repeat' split) <;> simp

@[simp] theorem State.testSpout_frame :
    s.testSpout.holds = s.holds ∧ s.testSpout.spout = s.spout ∧ s.testSpout.dust = s.dust ∧
    s.testSpout.contacts = s.contacts ∧ s.testSpout.loop = s.loop ∧
    s.testSpout.service = s.service ∧ s.testSpout.modes = s.modes ∧ s.testSpout.pins = s.pins ∧
    s.testSpout.freeCount = s.freeCount ∧ s.testSpout.pending = s.pending := by
  simp only [State.testSpout]
  (repeat' split) <;> simp

@[simp] theorem State.recomputeBarriers_frame :
    s.recomputeBarriers.weigher = s.weigher ∧ s.recomputeBarriers.queue = s.queue ∧
    s.recomputeBarriers.holds = s.holds ∧ s.recomputeBarriers.plan = s.plan ∧
    s.recomputeBarriers.dust = s.dust ∧ s.recomputeBarriers.gate = s.gate ∧
    s.recomputeBarriers.contacts = s.contacts ∧ s.recomputeBarriers.bills = s.bills ∧
    s.recomputeBarriers.loop = s.loop ∧ s.recomputeBarriers.service = s.service ∧
    s.recomputeBarriers.notices = s.notices ∧ s.recomputeBarriers.modes = s.modes ∧
    s.recomputeBarriers.pins = s.pins ∧ s.recomputeBarriers.came = s.came ∧
    s.recomputeBarriers.freeCount = s.freeCount ∧ s.recomputeBarriers.pending = s.pending := by
  simp [State.recomputeBarriers]

@[simp] theorem State.spoutNotices_frame (b : SpoutPosition) :
    (s.spoutNotices b).weigher = s.weigher ∧ (s.spoutNotices b).queue = s.queue ∧
    (s.spoutNotices b).holds = s.holds ∧ (s.spoutNotices b).plan = s.plan ∧
    (s.spoutNotices b).spout = s.spout ∧ (s.spoutNotices b).dust = s.dust ∧
    (s.spoutNotices b).gate = s.gate ∧ (s.spoutNotices b).contacts = s.contacts ∧
    (s.spoutNotices b).bills = s.bills ∧ (s.spoutNotices b).loop = s.loop ∧
    (s.spoutNotices b).service = s.service ∧ (s.spoutNotices b).modes = s.modes ∧
    (s.spoutNotices b).pins = s.pins ∧ (s.spoutNotices b).freeCount = s.freeCount ∧
    (s.spoutNotices b).pending = s.pending := by
  simp only [State.spoutNotices]
  (repeat' split) <;> simp

@[simp] theorem State.recomputeSpout_frame (b : Bool) :
    (s.recomputeSpout b).holds = s.holds ∧ (s.recomputeSpout b).dust = s.dust ∧
    (s.recomputeSpout b).contacts = s.contacts ∧ (s.recomputeSpout b).loop = s.loop ∧
    (s.recomputeSpout b).service = s.service ∧ (s.recomputeSpout b).modes = s.modes ∧
    (s.recomputeSpout b).pins = s.pins ∧ (s.recomputeSpout b).freeCount = s.freeCount ∧
    (s.recomputeSpout b).pending = s.pending := by
  simp only [State.recomputeSpout]
  (repeat' split) <;> simp

@[simp] theorem State.recordTip_frame (h : HoldNo) (tip : Int) :
    (s.recordTip h tip).dust = s.dust ∧ (s.recordTip h tip).contacts = s.contacts ∧
    (s.recordTip h tip).loop = s.loop ∧ (s.recordTip h tip).service = s.service ∧
    (s.recordTip h tip).modes = s.modes ∧ (s.recordTip h tip).pins = s.pins ∧
    (s.recordTip h tip).freeCount = s.freeCount ∧ (s.recordTip h tip).pending = s.pending := by
  simp only [State.recordTip]
  (repeat' split) <;> simp

@[simp] theorem State.reportTip_frame :
    s.reportTip.dust = s.dust ∧ s.reportTip.contacts = s.contacts ∧ s.reportTip.loop = s.loop ∧
    s.reportTip.service = s.service ∧ s.reportTip.modes = s.modes ∧ s.reportTip.pins = s.pins ∧
    s.reportTip.freeCount = s.freeCount ∧ s.reportTip.pending = s.pending := by
  simp only [State.reportTip]
  (repeat' split) <;> simp

@[simp] theorem State.changeTipContact_frame (a m : Bool) :
    (s.changeTipContact a m).dust = s.dust ∧ (s.changeTipContact a m).contacts = s.contacts ∧
    (s.changeTipContact a m).loop = s.loop ∧ (s.changeTipContact a m).service = s.service ∧
    (s.changeTipContact a m).modes = s.modes ∧ (s.changeTipContact a m).pins = s.pins ∧
    (s.changeTipContact a m).freeCount = s.freeCount ∧ (s.changeTipContact a m).pending = s.pending := by
  simp only [State.changeTipContact]
  (repeat' split) <;> simp

@[simp] theorem State.rejudgeHatch_frame :
    s.rejudgeHatch.holds = s.holds ∧ s.rejudgeHatch.spout = s.spout ∧
    s.rejudgeHatch.dust = s.dust ∧ s.rejudgeHatch.contacts = s.contacts ∧
    s.rejudgeHatch.loop = s.loop ∧ s.rejudgeHatch.service = s.service ∧
    s.rejudgeHatch.modes = s.modes ∧ s.rejudgeHatch.pins = s.pins ∧
    s.rejudgeHatch.freeCount = s.freeCount ∧ s.rejudgeHatch.pending = s.pending := by
  simp only [State.rejudgeHatch]
  (repeat' split) <;> simp

@[simp] theorem State.activeStepChanged_frame :
    s.activeStepChanged.holds = s.holds ∧ s.activeStepChanged.dust = s.dust ∧
    s.activeStepChanged.contacts = s.contacts ∧ s.activeStepChanged.loop = s.loop ∧
    s.activeStepChanged.service = s.service ∧ s.activeStepChanged.modes = s.modes ∧
    s.activeStepChanged.pins = s.pins ∧ s.activeStepChanged.freeCount = s.freeCount ∧
    s.activeStepChanged.pending = s.pending := by
  simp only [State.activeStepChanged]
  (repeat' split) <;> simp

@[simp] theorem State.setTopUpCap_frame (n : Nat) :
    (s.setTopUpCap n).weigher = s.weigher ∧ (s.setTopUpCap n).queue = s.queue ∧
    (s.setTopUpCap n).holds = s.holds ∧ (s.setTopUpCap n).plan = s.plan ∧
    (s.setTopUpCap n).spout = s.spout ∧ (s.setTopUpCap n).dust = s.dust ∧
    (s.setTopUpCap n).contacts = s.contacts ∧ (s.setTopUpCap n).bills = s.bills ∧
    (s.setTopUpCap n).loop = s.loop ∧ (s.setTopUpCap n).service = s.service ∧
    (s.setTopUpCap n).notices = s.notices ∧ (s.setTopUpCap n).modes = s.modes ∧
    (s.setTopUpCap n).pins = s.pins ∧ (s.setTopUpCap n).came = s.came ∧
    (s.setTopUpCap n).freeCount = s.freeCount ∧ (s.setTopUpCap n).pending = s.pending := by
  simp [State.setTopUpCap]

@[simp] theorem State.checkActive_frame (st : Step) :
    (s.checkActive st).holds = s.holds ∧ (s.checkActive st).spout = s.spout ∧
    (s.checkActive st).dust = s.dust ∧ (s.checkActive st).contacts = s.contacts ∧
    (s.checkActive st).loop = s.loop ∧ (s.checkActive st).service = s.service ∧
    (s.checkActive st).modes = s.modes ∧ (s.checkActive st).pins = s.pins ∧
    (s.checkActive st).freeCount = s.freeCount ∧ (s.checkActive st).pending = s.pending := by
  simp only [State.checkActive]
  (repeat' split) <;> simp

@[simp] theorem State.activate_frame :
    s.activate.holds = s.holds ∧ s.activate.dust = s.dust ∧ s.activate.contacts = s.contacts ∧
    s.activate.loop = s.loop ∧ s.activate.service = s.service ∧ s.activate.modes = s.modes ∧
    s.activate.pins = s.pins ∧ s.activate.freeCount = s.freeCount ∧ s.activate.pending = s.pending := by
  simp only [State.activate]
  (repeat' split) <;> simp

@[simp] theorem State.leaveActive_frame (f : Step → Step) :
    (s.leaveActive f).holds = s.holds ∧ (s.leaveActive f).dust = s.dust ∧
    (s.leaveActive f).contacts = s.contacts ∧ (s.leaveActive f).loop = s.loop ∧
    (s.leaveActive f).service = s.service ∧ (s.leaveActive f).modes = s.modes ∧
    (s.leaveActive f).pins = s.pins ∧ (s.leaveActive f).freeCount = s.freeCount ∧
    (s.leaveActive f).pending = s.pending := by
  simp only [State.leaveActive]
  (repeat' split) <;> simp

@[simp] theorem State.endActive_frame (f : Step → Step) :
    (s.endActive f).holds = s.holds ∧ (s.endActive f).dust = s.dust ∧
    (s.endActive f).contacts = s.contacts ∧ (s.endActive f).loop = s.loop ∧
    (s.endActive f).service = s.service ∧ (s.endActive f).modes = s.modes ∧
    (s.endActive f).pins = s.pins ∧ (s.endActive f).freeCount = s.freeCount ∧
    (s.endActive f).pending = s.pending := by
  simp only [State.endActive]
  (repeat' split) <;> simp

@[simp] theorem State.drainTarget_frame (st : Step) :
    (s.drainTarget st).holds = s.holds ∧ (s.drainTarget st).dust = s.dust ∧
    (s.drainTarget st).contacts = s.contacts ∧ (s.drainTarget st).loop = s.loop ∧
    (s.drainTarget st).service = s.service ∧ (s.drainTarget st).modes = s.modes ∧
    (s.drainTarget st).pins = s.pins ∧ (s.drainTarget st).freeCount = s.freeCount ∧
    (s.drainTarget st).pending = s.pending := by
  simp only [State.drainTarget]
  (repeat' split) <;> simp

@[simp] theorem State.drainDone_frame (c : StopCause) :
    (s.drainDone c).holds = s.holds ∧ (s.drainDone c).dust = s.dust ∧
    (s.drainDone c).contacts = s.contacts ∧ (s.drainDone c).loop = s.loop ∧
    (s.drainDone c).service = s.service ∧ (s.drainDone c).modes = s.modes ∧
    (s.drainDone c).pins = s.pins ∧ (s.drainDone c).freeCount = s.freeCount ∧
    (s.drainDone c).pending = s.pending := by
  simp only [State.drainDone]
  (repeat' split) <;> simp

@[simp] theorem State.drainTest_frame :
    s.drainTest.holds = s.holds ∧ s.drainTest.dust = s.dust ∧ s.drainTest.contacts = s.contacts ∧
    s.drainTest.loop = s.loop ∧ s.drainTest.service = s.service ∧ s.drainTest.modes = s.modes ∧
    s.drainTest.pins = s.pins ∧ s.drainTest.freeCount = s.freeCount ∧
    s.drainTest.pending = s.pending := by
  simp only [State.drainTest]
  (repeat' split) <;> simp

@[simp] theorem State.planLoading_frame :
    s.planLoading.holds = s.holds ∧ s.planLoading.dust = s.dust ∧
    s.planLoading.contacts = s.contacts ∧ s.planLoading.loop = s.loop ∧
    s.planLoading.service = s.service ∧ s.planLoading.modes = s.modes ∧
    s.planLoading.pins = s.pins ∧ s.planLoading.freeCount = s.freeCount ∧
    s.planLoading.pending = s.pending := by
  simp only [State.planLoading]
  (repeat' split) <;> simp

@[simp] theorem State.planEndLoading_frame :
    s.planEndLoading.holds = s.holds ∧ s.planEndLoading.dust = s.dust ∧
    s.planEndLoading.contacts = s.contacts ∧ s.planEndLoading.loop = s.loop ∧
    s.planEndLoading.service = s.service ∧ s.planEndLoading.modes = s.modes ∧
    s.planEndLoading.pins = s.pins ∧ s.planEndLoading.freeCount = s.freeCount ∧
    s.planEndLoading.pending = s.pending := by
  simp only [State.planEndLoading]
  (repeat' split) <;> simp

@[simp] theorem State.planRestart_frame :
    s.planRestart.weigher = s.weigher ∧ s.planRestart.queue = s.queue ∧
    s.planRestart.holds = s.holds ∧ s.planRestart.spout = s.spout ∧ s.planRestart.dust = s.dust ∧
    s.planRestart.contacts = s.contacts ∧ s.planRestart.bills = s.bills ∧
    s.planRestart.loop = s.loop ∧ s.planRestart.service = s.service ∧
    s.planRestart.modes = s.modes ∧ s.planRestart.pins = s.pins ∧
    s.planRestart.freeCount = s.freeCount ∧ s.planRestart.pending = s.pending := by
  simp only [State.planRestart]
  (repeat' split) <;> simp

@[simp] theorem State.targetReplaced_frame :
    s.targetReplaced.holds = s.holds ∧ s.targetReplaced.spout = s.spout ∧
    s.targetReplaced.dust = s.dust ∧ s.targetReplaced.contacts = s.contacts ∧
    s.targetReplaced.loop = s.loop ∧ s.targetReplaced.service = s.service ∧
    s.targetReplaced.modes = s.modes ∧ s.targetReplaced.pins = s.pins ∧
    s.targetReplaced.freeCount = s.freeCount ∧ s.targetReplaced.pending = s.pending := by
  simp only [State.targetReplaced]
  (repeat' split) <;> simp

@[simp] theorem State.putHold_frame (h : HoldNo) (r : Option HoldRecord) :
    (s.putHold h r).dust = s.dust ∧ (s.putHold h r).contacts = s.contacts ∧
    (s.putHold h r).loop = s.loop ∧ (s.putHold h r).service = s.service ∧
    (s.putHold h r).modes = s.modes ∧ (s.putHold h r).pins = s.pins ∧
    (s.putHold h r).freeCount = s.freeCount ∧ (s.putHold h r).pending = s.pending := by
  simp only [State.putHold]
  (repeat' split) <;> simp

@[simp] theorem State.acceptDeck_frame (d : Deck) (v : Half) (r : Bool) :
    (s.acceptDeck d v r).dust = s.dust ∧ (s.acceptDeck d v r).contacts = s.contacts ∧
    (s.acceptDeck d v r).loop = s.loop ∧ (s.acceptDeck d v r).service = s.service ∧
    (s.acceptDeck d v r).modes = s.modes ∧ (s.acceptDeck d v r).pins = s.pins ∧
    (s.acceptDeck d v r).freeCount = s.freeCount ∧ (s.acceptDeck d v r).pending = s.pending := by
  simp only [State.acceptDeck]
  (repeat' split) <;> simp

@[simp] theorem State.judgeDeck_frame :
    s.judgeDeck.holds = s.holds ∧ s.judgeDeck.spout = s.spout ∧ s.judgeDeck.dust = s.dust ∧
    s.judgeDeck.contacts = s.contacts ∧ s.judgeDeck.loop = s.loop ∧
    s.judgeDeck.service = s.service ∧ s.judgeDeck.modes = s.modes ∧ s.judgeDeck.pins = s.pins ∧
    s.judgeDeck.freeCount = s.freeCount ∧ s.judgeDeck.pending = s.pending := by
  simp only [State.judgeDeck]
  (repeat' split) <;> simp

@[simp] theorem State.creditHold_frame (d : Option HoldNo) (p : Parcel) :
    (s.creditHold d p).weigher = s.weigher ∧ (s.creditHold d p).queue = s.queue ∧
    (s.creditHold d p).plan = s.plan ∧ (s.creditHold d p).spout = s.spout ∧
    (s.creditHold d p).dust = s.dust ∧ (s.creditHold d p).gate = s.gate ∧
    (s.creditHold d p).contacts = s.contacts ∧ (s.creditHold d p).bills = s.bills ∧
    (s.creditHold d p).loop = s.loop ∧ (s.creditHold d p).service = s.service ∧
    (s.creditHold d p).notices = s.notices ∧ (s.creditHold d p).modes = s.modes ∧
    (s.creditHold d p).pins = s.pins ∧ (s.creditHold d p).came = s.came ∧
    (s.creditHold d p).freeCount = s.freeCount ∧ (s.creditHold d p).pending = s.pending := by
  simp only [State.creditHold]
  (repeat' split) <;> simp

@[simp] theorem State.settle_frame (d : Option HoldNo) (p : Parcel) :
    (s.settle d p).queue = s.queue ∧ (s.settle d p).holds = s.holds ∧
    (s.settle d p).plan = s.plan ∧ (s.settle d p).spout = s.spout ∧ (s.settle d p).dust = s.dust ∧
    (s.settle d p).gate = s.gate ∧ (s.settle d p).contacts = s.contacts ∧
    (s.settle d p).loop = s.loop ∧ (s.settle d p).service = s.service ∧
    (s.settle d p).notices = s.notices ∧ (s.settle d p).modes = s.modes ∧
    (s.settle d p).pins = s.pins ∧ (s.settle d p).came = s.came ∧
    (s.settle d p).freeCount = s.freeCount ∧ (s.settle d p).pending = s.pending := by
  simp only [State.settle]
  (repeat' split) <;> simp

@[simp] theorem State.creditStep_frame (d : Option HoldNo) (p : Parcel) :
    (s.creditStep d p).weigher = s.weigher ∧ (s.creditStep d p).queue = s.queue ∧
    (s.creditStep d p).holds = s.holds ∧ (s.creditStep d p).spout = s.spout ∧
    (s.creditStep d p).dust = s.dust ∧ (s.creditStep d p).gate = s.gate ∧
    (s.creditStep d p).contacts = s.contacts ∧ (s.creditStep d p).bills = s.bills ∧
    (s.creditStep d p).loop = s.loop ∧ (s.creditStep d p).service = s.service ∧
    (s.creditStep d p).modes = s.modes ∧ (s.creditStep d p).pins = s.pins ∧
    (s.creditStep d p).freeCount = s.freeCount ∧ (s.creditStep d p).pending = s.pending := by
  simp only [State.creditStep]
  (repeat' split) <;> simp

@[simp] theorem State.noticeSpill_frame (d : Option HoldNo) (p : Parcel) :
    (s.noticeSpill d p).weigher = s.weigher ∧ (s.noticeSpill d p).queue = s.queue ∧
    (s.noticeSpill d p).holds = s.holds ∧ (s.noticeSpill d p).plan = s.plan ∧
    (s.noticeSpill d p).spout = s.spout ∧ (s.noticeSpill d p).dust = s.dust ∧
    (s.noticeSpill d p).gate = s.gate ∧ (s.noticeSpill d p).contacts = s.contacts ∧
    (s.noticeSpill d p).bills = s.bills ∧ (s.noticeSpill d p).loop = s.loop ∧
    (s.noticeSpill d p).service = s.service ∧ (s.noticeSpill d p).modes = s.modes ∧
    (s.noticeSpill d p).pins = s.pins ∧ (s.noticeSpill d p).freeCount = s.freeCount ∧
    (s.noticeSpill d p).pending = s.pending := by
  simp only [State.noticeSpill]
  (repeat' split) <;> simp

@[simp] theorem State.followCredit_frame (d : Option HoldNo) :
    (s.followCredit d).dust = s.dust ∧ (s.followCredit d).contacts = s.contacts ∧
    (s.followCredit d).loop = s.loop ∧ (s.followCredit d).service = s.service ∧
    (s.followCredit d).modes = s.modes ∧ (s.followCredit d).pins = s.pins ∧
    (s.followCredit d).freeCount = s.freeCount ∧ (s.followCredit d).pending = s.pending := by
  simp only [State.followCredit]
  (repeat' split) <;> simp

@[simp] theorem State.creditParcel_frame (p : Parcel) :
    (s.creditParcel p).dust = s.dust ∧ (s.creditParcel p).contacts = s.contacts ∧
    (s.creditParcel p).loop = s.loop ∧ (s.creditParcel p).service = s.service ∧
    (s.creditParcel p).modes = s.modes ∧ (s.creditParcel p).pins = s.pins ∧
    (s.creditParcel p).freeCount = s.freeCount ∧ (s.creditParcel p).pending = s.pending := by
  simp only [State.creditParcel]
  (repeat' split) <;> simp

@[simp] theorem State.moveBelt_frame (n : Nat) :
    (s.moveBelt n).queue = s.queue ∧ (s.moveBelt n).holds = s.holds ∧
    (s.moveBelt n).plan = s.plan ∧ (s.moveBelt n).spout = s.spout ∧ (s.moveBelt n).dust = s.dust ∧
    (s.moveBelt n).gate = s.gate ∧ (s.moveBelt n).contacts = s.contacts ∧
    (s.moveBelt n).bills = s.bills ∧ (s.moveBelt n).loop = s.loop ∧
    (s.moveBelt n).service = s.service ∧ (s.moveBelt n).notices = s.notices ∧
    (s.moveBelt n).modes = s.modes ∧ (s.moveBelt n).pins = s.pins ∧ (s.moveBelt n).came = s.came ∧
    (s.moveBelt n).freeCount = s.freeCount ∧ (s.moveBelt n).pending = s.pending := by
  simp [State.moveBelt]

@[simp] theorem State.discharge_frame (n : Nat) :
    (s.discharge n).dust = s.dust ∧ (s.discharge n).contacts = s.contacts ∧
    (s.discharge n).loop = s.loop ∧ (s.discharge n).service = s.service ∧
    (s.discharge n).modes = s.modes ∧ (s.discharge n).pins = s.pins ∧
    (s.discharge n).freeCount = s.freeCount ∧ (s.discharge n).pending = s.pending := by
  induction n generalizing s with
  | zero => simp [State.discharge]
  | succ n ih =>
    simp only [State.discharge]
    (repeat' split) <;> simp [ih]

@[simp] theorem State.queueAdvance_frame (before : Count32) :
    (s.queueAdvance before).dust = s.dust ∧ (s.queueAdvance before).contacts = s.contacts ∧
    (s.queueAdvance before).loop = s.loop ∧ (s.queueAdvance before).service = s.service ∧
    (s.queueAdvance before).modes = s.modes ∧ (s.queueAdvance before).pins = s.pins ∧
    (s.queueAdvance before).freeCount = s.freeCount ∧ (s.queueAdvance before).pending = s.pending := by
  simp only [State.queueAdvance]
  (repeat' split) <;> simp

@[simp] theorem State.advance_frame (before : Count32) (n : Nat) :
    (s.advance before n).dust = s.dust ∧ (s.advance before n).contacts = s.contacts ∧
    (s.advance before n).loop = s.loop ∧ (s.advance before n).service = s.service ∧
    (s.advance before n).modes = s.modes ∧ (s.advance before n).pins = s.pins ∧
    (s.advance before n).freeCount = s.freeCount ∧ (s.advance before n).pending = s.pending := by
  simp only [State.advance]
  (repeat' split) <;> simp

@[simp] theorem State.driftNotices_frame (w : Weigher) :
    (s.driftNotices w).weigher = s.weigher ∧ (s.driftNotices w).queue = s.queue ∧
    (s.driftNotices w).holds = s.holds ∧ (s.driftNotices w).plan = s.plan ∧
    (s.driftNotices w).spout = s.spout ∧ (s.driftNotices w).dust = s.dust ∧
    (s.driftNotices w).gate = s.gate ∧ (s.driftNotices w).contacts = s.contacts ∧
    (s.driftNotices w).bills = s.bills ∧ (s.driftNotices w).loop = s.loop ∧
    (s.driftNotices w).service = s.service ∧ (s.driftNotices w).modes = s.modes ∧
    (s.driftNotices w).pins = s.pins ∧ (s.driftNotices w).freeCount = s.freeCount ∧
    (s.driftNotices w).pending = s.pending := by
  simp only [State.driftNotices]
  (repeat' split) <;> simp

@[simp] theorem State.acceptScale_frame (t : WeighTable) (v : Half) :
    (s.acceptScale t v).queue = s.queue ∧ (s.acceptScale t v).holds = s.holds ∧
    (s.acceptScale t v).plan = s.plan ∧ (s.acceptScale t v).spout = s.spout ∧
    (s.acceptScale t v).dust = s.dust ∧ (s.acceptScale t v).gate = s.gate ∧
    (s.acceptScale t v).contacts = s.contacts ∧ (s.acceptScale t v).bills = s.bills ∧
    (s.acceptScale t v).loop = s.loop ∧ (s.acceptScale t v).service = s.service ∧
    (s.acceptScale t v).modes = s.modes ∧ (s.acceptScale t v).pins = s.pins ∧
    (s.acceptScale t v).freeCount = s.freeCount ∧ (s.acceptScale t v).pending = s.pending := by
  simp only [State.acceptScale]
  (repeat' split) <;> simp

@[simp] theorem State.endZero_frame (o : ZeroOutcome) (p : Option Int) (e : WeighEvent) :
    (s.endZero o p e).holds = s.holds ∧ (s.endZero o p e).spout = s.spout ∧
    (s.endZero o p e).dust = s.dust ∧ (s.endZero o p e).contacts = s.contacts ∧
    (s.endZero o p e).loop = s.loop ∧ (s.endZero o p e).service = s.service ∧
    (s.endZero o p e).modes = s.modes ∧ (s.endZero o p e).pins = s.pins ∧
    (s.endZero o p e).freeCount = s.freeCount ∧ (s.endZero o p e).pending = s.pending := by
  simp only [State.endZero]
  (repeat' split) <;> simp

@[simp] theorem State.abortZero_frame :
    s.abortZero.holds = s.holds ∧ s.abortZero.spout = s.spout ∧ s.abortZero.dust = s.dust ∧
    s.abortZero.contacts = s.contacts ∧ s.abortZero.loop = s.loop ∧
    s.abortZero.service = s.service ∧ s.abortZero.modes = s.modes ∧ s.abortZero.pins = s.pins ∧
    s.abortZero.freeCount = s.freeCount ∧ s.abortZero.pending = s.pending := by
  simp only [State.abortZero]
  (repeat' split) <;> simp

@[simp] theorem State.sensorLost_frame (e : WeighEvent) :
    (s.sensorLost e).holds = s.holds ∧ (s.sensorLost e).spout = s.spout ∧
    (s.sensorLost e).dust = s.dust ∧ (s.sensorLost e).contacts = s.contacts ∧
    (s.sensorLost e).loop = s.loop ∧ (s.sensorLost e).service = s.service ∧
    (s.sensorLost e).modes = s.modes ∧ (s.sensorLost e).pins = s.pins ∧
    (s.sensorLost e).freeCount = s.freeCount ∧ (s.sensorLost e).pending = s.pending := by
  simp only [State.sensorLost]
  (repeat' split) <;> simp

@[simp] theorem State.useScale_frame (v : Half) :
    (s.useScale v).queue = s.queue ∧ (s.useScale v).holds = s.holds ∧
    (s.useScale v).plan = s.plan ∧ (s.useScale v).spout = s.spout ∧ (s.useScale v).dust = s.dust ∧
    (s.useScale v).gate = s.gate ∧ (s.useScale v).contacts = s.contacts ∧
    (s.useScale v).bills = s.bills ∧ (s.useScale v).loop = s.loop ∧
    (s.useScale v).service = s.service ∧ (s.useScale v).modes = s.modes ∧
    (s.useScale v).pins = s.pins ∧ (s.useScale v).freeCount = s.freeCount ∧
    (s.useScale v).pending = s.pending := by
  simp only [State.useScale]
  (repeat' split) <;> simp

@[simp] theorem State.scalePart_frame (h : Handed) :
    (s.scalePart h).holds = s.holds ∧ (s.scalePart h).spout = s.spout ∧
    (s.scalePart h).dust = s.dust ∧ (s.scalePart h).contacts = s.contacts ∧
    (s.scalePart h).loop = s.loop ∧ (s.scalePart h).service = s.service ∧
    (s.scalePart h).modes = s.modes ∧ (s.scalePart h).pins = s.pins ∧
    (s.scalePart h).freeCount = s.freeCount ∧ (s.scalePart h).pending = s.pending := by
  simp only [State.scalePart]
  (repeat' split) <;> simp

@[simp] theorem State.judgePulses_frame (t : WeighTable) (v : Half) :
    (s.judgePulses t v).1.holds = s.holds ∧ (s.judgePulses t v).1.spout = s.spout ∧
    (s.judgePulses t v).1.dust = s.dust ∧ (s.judgePulses t v).1.contacts = s.contacts ∧
    (s.judgePulses t v).1.loop = s.loop ∧ (s.judgePulses t v).1.service = s.service ∧
    (s.judgePulses t v).1.modes = s.modes ∧ (s.judgePulses t v).1.pins = s.pins ∧
    (s.judgePulses t v).1.freeCount = s.freeCount ∧ (s.judgePulses t v).1.pending = s.pending := by
  simp only [State.judgePulses]
  (repeat' split) <;> simp

@[simp] theorem State.rearm_frame (v : Half) :
    (s.rearm v).queue = s.queue ∧ (s.rearm v).holds = s.holds ∧ (s.rearm v).plan = s.plan ∧
    (s.rearm v).spout = s.spout ∧ (s.rearm v).dust = s.dust ∧ (s.rearm v).gate = s.gate ∧
    (s.rearm v).contacts = s.contacts ∧ (s.rearm v).bills = s.bills ∧ (s.rearm v).loop = s.loop ∧
    (s.rearm v).service = s.service ∧ (s.rearm v).modes = s.modes ∧ (s.rearm v).pins = s.pins ∧
    (s.rearm v).freeCount = s.freeCount ∧ (s.rearm v).pending = s.pending := by
  simp [State.rearm]

@[simp] theorem State.armPulses_frame (v : Half) :
    (s.armPulses v).queue = s.queue ∧ (s.armPulses v).holds = s.holds ∧
    (s.armPulses v).plan = s.plan ∧ (s.armPulses v).spout = s.spout ∧
    (s.armPulses v).dust = s.dust ∧ (s.armPulses v).gate = s.gate ∧
    (s.armPulses v).contacts = s.contacts ∧ (s.armPulses v).bills = s.bills ∧
    (s.armPulses v).loop = s.loop ∧ (s.armPulses v).service = s.service ∧
    (s.armPulses v).notices = s.notices ∧ (s.armPulses v).modes = s.modes ∧
    (s.armPulses v).pins = s.pins ∧ (s.armPulses v).came = s.came ∧
    (s.armPulses v).freeCount = s.freeCount ∧ (s.armPulses v).pending = s.pending := by
  simp [State.armPulses]

@[simp] theorem State.takePulses_frame (t : WeighTable) (v : Half) :
    (s.takePulses t v).1.holds = s.holds ∧ (s.takePulses t v).1.spout = s.spout ∧
    (s.takePulses t v).1.dust = s.dust ∧ (s.takePulses t v).1.contacts = s.contacts ∧
    (s.takePulses t v).1.loop = s.loop ∧ (s.takePulses t v).1.service = s.service ∧
    (s.takePulses t v).1.modes = s.modes ∧ (s.takePulses t v).1.pins = s.pins ∧
    (s.takePulses t v).1.freeCount = s.freeCount ∧ (s.takePulses t v).1.pending = s.pending := by
  simp only [State.takePulses]
  (repeat' split) <;> simp

@[simp] theorem State.losePulses_frame :
    s.losePulses.holds = s.holds ∧ s.losePulses.spout = s.spout ∧ s.losePulses.dust = s.dust ∧
    s.losePulses.contacts = s.contacts ∧ s.losePulses.loop = s.loop ∧
    s.losePulses.service = s.service ∧ s.losePulses.modes = s.modes ∧ s.losePulses.pins = s.pins ∧
    s.losePulses.freeCount = s.freeCount ∧ s.losePulses.pending = s.pending := by
  simp only [State.losePulses]
  (repeat' split) <;> simp

@[simp] theorem State.pulsesUnloaded_frame (h : Handed) :
    (s.pulsesUnloaded h).holds = s.holds ∧ (s.pulsesUnloaded h).spout = s.spout ∧
    (s.pulsesUnloaded h).dust = s.dust ∧ (s.pulsesUnloaded h).contacts = s.contacts ∧
    (s.pulsesUnloaded h).loop = s.loop ∧ (s.pulsesUnloaded h).service = s.service ∧
    (s.pulsesUnloaded h).modes = s.modes ∧ (s.pulsesUnloaded h).pins = s.pins ∧
    (s.pulsesUnloaded h).freeCount = s.freeCount ∧ (s.pulsesUnloaded h).pending = s.pending := by
  simp only [State.pulsesUnloaded]
  (repeat' split) <;> simp

@[simp] theorem State.pulsePart_frame (h : Handed) :
    (s.pulsePart h).1.holds = s.holds ∧ (s.pulsePart h).1.spout = s.spout ∧
    (s.pulsePart h).1.dust = s.dust ∧ (s.pulsePart h).1.contacts = s.contacts ∧
    (s.pulsePart h).1.loop = s.loop ∧ (s.pulsePart h).1.service = s.service ∧
    (s.pulsePart h).1.modes = s.modes ∧ (s.pulsePart h).1.pins = s.pins ∧
    (s.pulsePart h).1.freeCount = s.freeCount ∧ (s.pulsePart h).1.pending = s.pending := by
  simp only [State.pulsePart]
  (repeat' split) <;> simp

@[simp] theorem State.judgeWeigh_frame :
    s.judgeWeigh.holds = s.holds ∧ s.judgeWeigh.spout = s.spout ∧ s.judgeWeigh.dust = s.dust ∧
    s.judgeWeigh.contacts = s.contacts ∧ s.judgeWeigh.loop = s.loop ∧
    s.judgeWeigh.service = s.service ∧ s.judgeWeigh.modes = s.modes ∧ s.judgeWeigh.pins = s.pins ∧
    s.judgeWeigh.freeCount = s.freeCount ∧ s.judgeWeigh.pending = s.pending := by
  simp only [State.judgeWeigh]
  (repeat' split) <;> simp

@[simp] theorem State.completeZero_frame (t : WeighTable) :
    (s.completeZero t).holds = s.holds ∧ (s.completeZero t).spout = s.spout ∧
    (s.completeZero t).dust = s.dust ∧ (s.completeZero t).contacts = s.contacts ∧
    (s.completeZero t).loop = s.loop ∧ (s.completeZero t).service = s.service ∧
    (s.completeZero t).modes = s.modes ∧ (s.completeZero t).pins = s.pins ∧
    (s.completeZero t).freeCount = s.freeCount ∧ (s.completeZero t).pending = s.pending := by
  simp only [State.completeZero]
  (repeat' split) <;> simp

@[simp] theorem State.calibrate_frame (t : WeighTable) (n : Nat) :
    (s.calibrate t n).holds = s.holds ∧ (s.calibrate t n).spout = s.spout ∧
    (s.calibrate t n).dust = s.dust ∧ (s.calibrate t n).contacts = s.contacts ∧
    (s.calibrate t n).loop = s.loop ∧ (s.calibrate t n).service = s.service ∧
    (s.calibrate t n).modes = s.modes ∧ (s.calibrate t n).pins = s.pins ∧
    (s.calibrate t n).freeCount = s.freeCount ∧ (s.calibrate t n).pending = s.pending := by
  simp only [State.calibrate]
  (repeat' split) <;> simp

@[simp] theorem State.handCarry_frame (before : Count32) (k : Nat) :
    (s.handCarry before k).holds = s.holds ∧ (s.handCarry before k).spout = s.spout ∧
    (s.handCarry before k).dust = s.dust ∧ (s.handCarry before k).contacts = s.contacts ∧
    (s.handCarry before k).loop = s.loop ∧ (s.handCarry before k).service = s.service ∧
    (s.handCarry before k).modes = s.modes ∧ (s.handCarry before k).pins = s.pins ∧
    (s.handCarry before k).freeCount = s.freeCount ∧ (s.handCarry before k).pending = s.pending := by
  simp only [State.handCarry]
  (repeat' split) <;> simp

@[simp] theorem State.massPart_frame (t : WeighTable) (r : Travel) :
    (s.massPart t r).dust = s.dust ∧ (s.massPart t r).contacts = s.contacts ∧
    (s.massPart t r).loop = s.loop ∧ (s.massPart t r).service = s.service ∧
    (s.massPart t r).modes = s.modes ∧ (s.massPart t r).pins = s.pins ∧
    (s.massPart t r).freeCount = s.freeCount ∧ (s.massPart t r).pending = s.pending := by
  simp only [State.massPart]
  (repeat' split) <;> simp

@[simp] theorem State.weigh_frame (a b : Handed) :
    (s.weigh a b).dust = s.dust ∧ (s.weigh a b).contacts = s.contacts ∧
    (s.weigh a b).loop = s.loop ∧ (s.weigh a b).service = s.service ∧
    (s.weigh a b).modes = s.modes ∧ (s.weigh a b).pins = s.pins ∧
    (s.weigh a b).freeCount = s.freeCount ∧ (s.weigh a b).pending = s.pending := by
  simp only [State.weigh]
  (repeat' split) <;> simp

@[simp] theorem State.handReduction_frame (n : ZoneNo) (v : Nat) :
    (s.handReduction n v).holds = s.holds ∧ (s.handReduction n v).dust = s.dust ∧
    (s.handReduction n v).contacts = s.contacts ∧ (s.handReduction n v).loop = s.loop ∧
    (s.handReduction n v).service = s.service ∧ (s.handReduction n v).modes = s.modes ∧
    (s.handReduction n v).pins = s.pins ∧ (s.handReduction n v).freeCount = s.freeCount ∧
    (s.handReduction n v).pending = s.pending := by
  simp only [State.handReduction]
  (repeat' split) <;> simp

@[simp] theorem State.handHighCap_frame (n : ZoneNo) (c : Option Nat) :
    (s.handHighCap n c).weigher = s.weigher ∧ (s.handHighCap n c).queue = s.queue ∧
    (s.handHighCap n c).holds = s.holds ∧ (s.handHighCap n c).plan = s.plan ∧
    (s.handHighCap n c).spout = s.spout ∧ (s.handHighCap n c).dust = s.dust ∧
    (s.handHighCap n c).contacts = s.contacts ∧ (s.handHighCap n c).bills = s.bills ∧
    (s.handHighCap n c).loop = s.loop ∧ (s.handHighCap n c).service = s.service ∧
    (s.handHighCap n c).notices = s.notices ∧ (s.handHighCap n c).modes = s.modes ∧
    (s.handHighCap n c).pins = s.pins ∧ (s.handHighCap n c).came = s.came ∧
    (s.handHighCap n c).freeCount = s.freeCount ∧ (s.handHighCap n c).pending = s.pending := by
  simp [State.handHighCap]

@[simp] theorem State.zoneNotices_frame (n : ZoneNo) (l : List (ZoneState × Zone)) :
    (s.zoneNotices n l).weigher = s.weigher ∧ (s.zoneNotices n l).queue = s.queue ∧
    (s.zoneNotices n l).holds = s.holds ∧ (s.zoneNotices n l).plan = s.plan ∧
    (s.zoneNotices n l).spout = s.spout ∧ (s.zoneNotices n l).dust = s.dust ∧
    (s.zoneNotices n l).gate = s.gate ∧ (s.zoneNotices n l).contacts = s.contacts ∧
    (s.zoneNotices n l).bills = s.bills ∧ (s.zoneNotices n l).loop = s.loop ∧
    (s.zoneNotices n l).service = s.service ∧ (s.zoneNotices n l).modes = s.modes ∧
    (s.zoneNotices n l).pins = s.pins ∧ (s.zoneNotices n l).freeCount = s.freeCount ∧
    (s.zoneNotices n l).pending = s.pending := by
  simp only [State.zoneNotices]
  induction l generalizing s with
  | nil => simp
  | cons a l ih => simp [ih]

@[simp] theorem State.finishZone_frame (n : ZoneNo) (w : ZoneWork) :
    (s.finishZone n w).holds = s.holds ∧ (s.finishZone n w).contacts = s.contacts ∧
    (s.finishZone n w).loop = s.loop ∧ (s.finishZone n w).service = s.service ∧
    (s.finishZone n w).modes = s.modes ∧ (s.finishZone n w).pins = s.pins ∧
    (s.finishZone n w).freeCount = s.freeCount ∧ (s.finishZone n w).pending = s.pending := by
  simp only [State.finishZone]
  (repeat' split) <;> simp

@[simp] theorem State.answerGate_frame (v : Half) :
    (s.answerGate v).weigher = s.weigher ∧ (s.answerGate v).queue = s.queue ∧
    (s.answerGate v).holds = s.holds ∧ (s.answerGate v).plan = s.plan ∧
    (s.answerGate v).spout = s.spout ∧ (s.answerGate v).dust = s.dust ∧
    (s.answerGate v).contacts = s.contacts ∧ (s.answerGate v).bills = s.bills ∧
    (s.answerGate v).loop = s.loop ∧ (s.answerGate v).service = s.service ∧
    (s.answerGate v).notices = s.notices ∧ (s.answerGate v).modes = s.modes ∧
    (s.answerGate v).pins = s.pins ∧ (s.answerGate v).came = s.came ∧
    (s.answerGate v).freeCount = s.freeCount ∧ (s.answerGate v).pending = s.pending := by
  simp [State.answerGate]

@[simp] theorem State.acceptGate_frame (v : Half) (r : Bool) :
    (s.acceptGate v r).weigher = s.weigher ∧ (s.acceptGate v r).queue = s.queue ∧
    (s.acceptGate v r).holds = s.holds ∧ (s.acceptGate v r).plan = s.plan ∧
    (s.acceptGate v r).spout = s.spout ∧ (s.acceptGate v r).dust = s.dust ∧
    (s.acceptGate v r).contacts = s.contacts ∧ (s.acceptGate v r).bills = s.bills ∧
    (s.acceptGate v r).loop = s.loop ∧ (s.acceptGate v r).service = s.service ∧
    (s.acceptGate v r).notices = s.notices ∧ (s.acceptGate v r).modes = s.modes ∧
    (s.acceptGate v r).pins = s.pins ∧ (s.acceptGate v r).came = s.came ∧
    (s.acceptGate v r).freeCount = s.freeCount ∧ (s.acceptGate v r).pending = s.pending := by
  simp [State.acceptGate]

@[simp] theorem State.rejudgeSway_frame :
    s.rejudgeSway.holds = s.holds ∧ s.rejudgeSway.spout = s.spout ∧ s.rejudgeSway.dust = s.dust ∧
    s.rejudgeSway.contacts = s.contacts ∧ s.rejudgeSway.loop = s.loop ∧
    s.rejudgeSway.service = s.service ∧ s.rejudgeSway.modes = s.modes ∧
    s.rejudgeSway.pins = s.pins ∧ s.rejudgeSway.freeCount = s.freeCount ∧
    s.rejudgeSway.pending = s.pending := by
  simp only [State.rejudgeSway]
  (repeat' split) <;> simp

@[simp] theorem State.setLatch_frame (b : Bool) :
    (s.setLatch b).weigher = s.weigher ∧ (s.setLatch b).queue = s.queue ∧
    (s.setLatch b).holds = s.holds ∧ (s.setLatch b).plan = s.plan ∧
    (s.setLatch b).spout = s.spout ∧ (s.setLatch b).dust = s.dust ∧ (s.setLatch b).gate = s.gate ∧
    (s.setLatch b).bills = s.bills ∧ (s.setLatch b).loop = s.loop ∧
    (s.setLatch b).service = s.service ∧ (s.setLatch b).notices = s.notices ∧
    (s.setLatch b).modes = s.modes ∧ (s.setLatch b).pins = s.pins ∧ (s.setLatch b).came = s.came ∧
    (s.setLatch b).freeCount = s.freeCount ∧ (s.setLatch b).pending = s.pending := by
  simp [State.setLatch]

@[simp] theorem State.announceCord_frame (l : List ContactChange) :
    (s.announceCord l).weigher = s.weigher ∧ (s.announceCord l).queue = s.queue ∧
    (s.announceCord l).holds = s.holds ∧ (s.announceCord l).plan = s.plan ∧
    (s.announceCord l).spout = s.spout ∧ (s.announceCord l).dust = s.dust ∧
    (s.announceCord l).gate = s.gate ∧ (s.announceCord l).bills = s.bills ∧
    (s.announceCord l).loop = s.loop ∧ (s.announceCord l).service = s.service ∧
    (s.announceCord l).modes = s.modes ∧ (s.announceCord l).pins = s.pins ∧
    (s.announceCord l).freeCount = s.freeCount ∧ (s.announceCord l).pending = s.pending := by
  simp only [State.announceCord]
  (repeat' split) <;> simp

@[simp] theorem State.announceSway_frame (l : List ContactChange) :
    (s.announceSway l).weigher = s.weigher ∧ (s.announceSway l).queue = s.queue ∧
    (s.announceSway l).holds = s.holds ∧ (s.announceSway l).plan = s.plan ∧
    (s.announceSway l).spout = s.spout ∧ (s.announceSway l).dust = s.dust ∧
    (s.announceSway l).gate = s.gate ∧ (s.announceSway l).contacts = s.contacts ∧
    (s.announceSway l).bills = s.bills ∧ (s.announceSway l).loop = s.loop ∧
    (s.announceSway l).service = s.service ∧ (s.announceSway l).modes = s.modes ∧
    (s.announceSway l).pins = s.pins ∧ (s.announceSway l).freeCount = s.freeCount ∧
    (s.announceSway l).pending = s.pending := by
  simp only [State.announceSway]
  (repeat' split) <;> simp

@[simp] theorem State.announceHatch_frame (l : List ContactChange) :
    (s.announceHatch l).weigher = s.weigher ∧ (s.announceHatch l).queue = s.queue ∧
    (s.announceHatch l).holds = s.holds ∧ (s.announceHatch l).plan = s.plan ∧
    (s.announceHatch l).spout = s.spout ∧ (s.announceHatch l).dust = s.dust ∧
    (s.announceHatch l).gate = s.gate ∧ (s.announceHatch l).contacts = s.contacts ∧
    (s.announceHatch l).bills = s.bills ∧ (s.announceHatch l).loop = s.loop ∧
    (s.announceHatch l).service = s.service ∧ (s.announceHatch l).modes = s.modes ∧
    (s.announceHatch l).pins = s.pins ∧ (s.announceHatch l).freeCount = s.freeCount ∧
    (s.announceHatch l).pending = s.pending := by
  simp only [State.announceHatch]
  (repeat' split) <;> simp

@[simp] theorem State.followHatch_frame :
    s.followHatch.holds = s.holds ∧ s.followHatch.spout = s.spout ∧ s.followHatch.dust = s.dust ∧
    s.followHatch.contacts = s.contacts ∧ s.followHatch.loop = s.loop ∧
    s.followHatch.service = s.service ∧ s.followHatch.modes = s.modes ∧
    s.followHatch.pins = s.pins ∧ s.followHatch.freeCount = s.freeCount ∧
    s.followHatch.pending = s.pending := by
  simp [State.followHatch]

@[simp] theorem State.handChange_frame (r : ContactRole) (a m : Bool) :
    (s.handChange r a m).dust = s.dust ∧ (s.handChange r a m).loop = s.loop ∧
    (s.handChange r a m).service = s.service ∧ (s.handChange r a m).modes = s.modes ∧
    (s.handChange r a m).pins = s.pins ∧ (s.handChange r a m).freeCount = s.freeCount ∧
    (s.handChange r a m).pending = s.pending := by
  simp only [State.handChange]
  (repeat' split) <;> simp

@[simp] theorem State.handInput_frame (c : ContactChange) :
    (s.handInput c).dust = s.dust ∧ (s.handInput c).loop = s.loop ∧
    (s.handInput c).service = s.service ∧ (s.handInput c).modes = s.modes ∧
    (s.handInput c).pins = s.pins ∧ (s.handInput c).freeCount = s.freeCount ∧
    (s.handInput c).pending = s.pending := by
  simp [State.handInput]

theorem State.handInputs_frame (l : List ContactChange) :
    (l.foldl State.handInput s).dust = s.dust ∧ (l.foldl State.handInput s).loop = s.loop ∧
    (l.foldl State.handInput s).service = s.service ∧ (l.foldl State.handInput s).modes = s.modes ∧
    (l.foldl State.handInput s).pins = s.pins ∧
    (l.foldl State.handInput s).freeCount = s.freeCount ∧
    (l.foldl State.handInput s).pending = s.pending := by
  induction l generalizing s with
  | nil => simp
  | cons a l ih => simp [ih]

@[simp] theorem State.handChanges_frame (l : List ContactChange) :
    (s.handChanges l).dust = s.dust ∧ (s.handChanges l).loop = s.loop ∧
    (s.handChanges l).service = s.service ∧ (s.handChanges l).modes = s.modes ∧
    (s.handChanges l).pins = s.pins ∧ (s.handChanges l).freeCount = s.freeCount ∧
    (s.handChanges l).pending = s.pending := by
  simp [State.handChanges, State.handInputs_frame]

@[simp] theorem State.moveInputs_frame (f : InputNo → ContactInput → ContactInput × Option Bool) :
    (s.moveInputs f).dust = s.dust ∧ (s.moveInputs f).loop = s.loop ∧
    (s.moveInputs f).service = s.service ∧ (s.moveInputs f).modes = s.modes ∧
    (s.moveInputs f).pins = s.pins ∧ (s.moveInputs f).freeCount = s.freeCount ∧
    (s.moveInputs f).pending = s.pending := by
  simp only [State.moveInputs]
  (repeat' split) <;> simp

@[simp] theorem State.debounce_frame (v : Half) :
    (s.debounce v).dust = s.dust ∧ (s.debounce v).loop = s.loop ∧
    (s.debounce v).service = s.service ∧ (s.debounce v).modes = s.modes ∧
    (s.debounce v).pins = s.pins ∧ (s.debounce v).freeCount = s.freeCount ∧
    (s.debounce v).pending = s.pending := by
  simp only [State.debounce]
  (repeat' split) <;> simp

@[simp] theorem State.rejudgeLatch_frame :
    s.rejudgeLatch.holds = s.holds ∧ s.rejudgeLatch.spout = s.spout ∧
    s.rejudgeLatch.dust = s.dust ∧ s.rejudgeLatch.loop = s.loop ∧
    s.rejudgeLatch.service = s.service ∧ s.rejudgeLatch.modes = s.modes ∧
    s.rejudgeLatch.pins = s.pins ∧ s.rejudgeLatch.freeCount = s.freeCount ∧
    s.rejudgeLatch.pending = s.pending := by
  simp only [State.rejudgeLatch]
  (repeat' split) <;> simp

@[simp] theorem State.setMode_frame (m : Mode) :
    (s.setMode m).weigher = s.weigher ∧ (s.setMode m).queue = s.queue ∧
    (s.setMode m).holds = s.holds ∧ (s.setMode m).plan = s.plan ∧ (s.setMode m).spout = s.spout ∧
    (s.setMode m).dust = s.dust ∧ (s.setMode m).gate = s.gate ∧
    (s.setMode m).contacts = s.contacts ∧ (s.setMode m).bills = s.bills ∧
    (s.setMode m).loop = s.loop ∧ (s.setMode m).service = s.service ∧
    (s.setMode m).notices = s.notices ∧ (s.setMode m).pins = s.pins ∧ (s.setMode m).came = s.came ∧
    (s.setMode m).freeCount = s.freeCount ∧ (s.setMode m).pending = s.pending := by
  simp [State.setMode]

@[simp] theorem State.enterLoading_frame :
    s.enterLoading.holds = s.holds ∧ s.enterLoading.dust = s.dust ∧
    s.enterLoading.contacts = s.contacts ∧ s.enterLoading.loop = s.loop ∧
    s.enterLoading.service = s.service ∧ s.enterLoading.pins = s.pins ∧
    s.enterLoading.freeCount = s.freeCount ∧ s.enterLoading.pending = s.pending := by
  simp only [State.enterLoading]
  (repeat' split) <;> simp

@[simp] theorem State.restartTracker_frame :
    s.restartTracker.queue = s.queue ∧ s.restartTracker.holds = s.holds ∧
    s.restartTracker.plan = s.plan ∧ s.restartTracker.spout = s.spout ∧
    s.restartTracker.dust = s.dust ∧ s.restartTracker.gate = s.gate ∧
    s.restartTracker.contacts = s.contacts ∧ s.restartTracker.bills = s.bills ∧
    s.restartTracker.loop = s.loop ∧ s.restartTracker.service = s.service ∧
    s.restartTracker.notices = s.notices ∧ s.restartTracker.modes = s.modes ∧
    s.restartTracker.pins = s.pins ∧ s.restartTracker.came = s.came ∧
    s.restartTracker.freeCount = s.freeCount ∧ s.restartTracker.pending = s.pending := by
  simp only [State.restartTracker]
  (repeat' split) <;> simp

@[simp] theorem State.restartContacts_eq :
    s.restartContacts = s.setContacts { s.contacts with sampleTaken := false } := rfl

@[simp] theorem State.restartGateAndService_frame :
    s.restartGateAndService.weigher = s.weigher ∧ s.restartGateAndService.queue = s.queue ∧
    s.restartGateAndService.holds = s.holds ∧ s.restartGateAndService.plan = s.plan ∧
    s.restartGateAndService.spout = s.spout ∧ s.restartGateAndService.dust = s.dust ∧
    s.restartGateAndService.contacts = s.contacts ∧ s.restartGateAndService.bills = s.bills ∧
    s.restartGateAndService.loop = s.loop ∧ s.restartGateAndService.notices = s.notices ∧
    s.restartGateAndService.modes = s.modes ∧ s.restartGateAndService.pins = s.pins ∧
    s.restartGateAndService.came = s.came ∧ s.restartGateAndService.freeCount = s.freeCount ∧
    s.restartGateAndService.pending = s.pending := by
  simp only [State.restartGateAndService]
  (repeat' split) <;> simp

theorem State.unresolveAll_frame (l : List Parcel) :
    (l.foldl State.unresolveParcel s).weigher = s.weigher ∧
    (l.foldl State.unresolveParcel s).queue = s.queue ∧
    (l.foldl State.unresolveParcel s).holds = s.holds ∧
    (l.foldl State.unresolveParcel s).plan = s.plan ∧
    (l.foldl State.unresolveParcel s).spout = s.spout ∧
    (l.foldl State.unresolveParcel s).dust = s.dust ∧
    (l.foldl State.unresolveParcel s).gate = s.gate ∧
    (l.foldl State.unresolveParcel s).contacts = s.contacts ∧
    (l.foldl State.unresolveParcel s).loop = s.loop ∧
    (l.foldl State.unresolveParcel s).service = s.service ∧
    (l.foldl State.unresolveParcel s).notices = s.notices ∧
    (l.foldl State.unresolveParcel s).modes = s.modes ∧
    (l.foldl State.unresolveParcel s).pins = s.pins ∧
    (l.foldl State.unresolveParcel s).came = s.came ∧
    (l.foldl State.unresolveParcel s).freeCount = s.freeCount ∧
    (l.foldl State.unresolveParcel s).pending = s.pending := by
  induction l generalizing s with
  | nil => simp
  | cons a l ih => simp [ih]

@[simp] theorem State.emptyQueue_frame :
    s.emptyQueue.holds = s.holds ∧ s.emptyQueue.plan = s.plan ∧ s.emptyQueue.spout = s.spout ∧
    s.emptyQueue.dust = s.dust ∧ s.emptyQueue.gate = s.gate ∧ s.emptyQueue.contacts = s.contacts ∧
    s.emptyQueue.loop = s.loop ∧ s.emptyQueue.service = s.service ∧
    s.emptyQueue.notices = s.notices ∧ s.emptyQueue.modes = s.modes ∧ s.emptyQueue.pins = s.pins ∧
    s.emptyQueue.came = s.came ∧ s.emptyQueue.freeCount = s.freeCount ∧
    s.emptyQueue.pending = s.pending := by
  simp only [State.emptyQueue]
  simp [State.unresolveAll_frame, - List.foldl_append]

@[simp] theorem State.loopRestart_frame :
    s.loopRestart.holds = s.holds ∧ s.loopRestart.dust = s.dust ∧
    s.loopRestart.contacts = { s.contacts with sampleTaken := false } ∧ s.loopRestart.loop = s.loop ∧
    s.loopRestart.pins = s.pins ∧ s.loopRestart.freeCount = s.freeCount ∧
    s.loopRestart.pending = s.pending := by
  simp only [State.loopRestart]
  (repeat' split) <;> simp

@[simp] theorem State.handUnmapped_frame (b : SampleBinding) :
    (s.handUnmapped b).weigher = s.weigher ∧ (s.handUnmapped b).queue = s.queue ∧
    (s.handUnmapped b).holds = s.holds ∧ (s.handUnmapped b).plan = s.plan ∧
    (s.handUnmapped b).spout = s.spout ∧ (s.handUnmapped b).dust = s.dust ∧
    (s.handUnmapped b).gate = s.gate ∧ (s.handUnmapped b).contacts = s.contacts ∧
    (s.handUnmapped b).bills = s.bills ∧ (s.handUnmapped b).service = s.service ∧
    (s.handUnmapped b).notices = s.notices ∧ (s.handUnmapped b).modes = s.modes ∧
    (s.handUnmapped b).pins = s.pins ∧ (s.handUnmapped b).came = s.came ∧
    (s.handUnmapped b).freeCount = s.freeCount ∧ (s.handUnmapped b).pending = s.pending := by
  simp only [State.handUnmapped]
  (repeat' split) <;> simp

@[simp] theorem State.judgeSample_frame (f : Option Frame) (i : SlotNo) (b : SampleBinding) (l : Nat) (r : Freshness) :
    (s.judgeSample f i b l r).weigher = s.weigher ∧ (s.judgeSample f i b l r).queue = s.queue ∧
    (s.judgeSample f i b l r).holds = s.holds ∧ (s.judgeSample f i b l r).plan = s.plan ∧
    (s.judgeSample f i b l r).spout = s.spout ∧ (s.judgeSample f i b l r).dust = s.dust ∧
    (s.judgeSample f i b l r).gate = s.gate ∧ (s.judgeSample f i b l r).contacts = s.contacts ∧
    (s.judgeSample f i b l r).bills = s.bills ∧ (s.judgeSample f i b l r).service = s.service ∧
    (s.judgeSample f i b l r).notices = s.notices ∧ (s.judgeSample f i b l r).modes = s.modes ∧
    (s.judgeSample f i b l r).pins = s.pins ∧ (s.judgeSample f i b l r).freeCount = s.freeCount ∧
    (s.judgeSample f i b l r).pending = s.pending := by
  simp only [State.judgeSample]
  (repeat' split) <;> simp

@[simp] theorem State.judgeCommand_frame (f : Option Frame) (i : SlotNo) (b : CommandBinding) (l : Nat) (r : Freshness) (c : CommandRecord) :
    (s.judgeCommand f i b l r c).weigher = s.weigher ∧
    (s.judgeCommand f i b l r c).queue = s.queue ∧ (s.judgeCommand f i b l r c).holds = s.holds ∧
    (s.judgeCommand f i b l r c).plan = s.plan ∧ (s.judgeCommand f i b l r c).spout = s.spout ∧
    (s.judgeCommand f i b l r c).dust = s.dust ∧ (s.judgeCommand f i b l r c).gate = s.gate ∧
    (s.judgeCommand f i b l r c).contacts = s.contacts ∧
    (s.judgeCommand f i b l r c).bills = s.bills ∧
    (s.judgeCommand f i b l r c).service = s.service ∧
    (s.judgeCommand f i b l r c).modes = s.modes ∧ (s.judgeCommand f i b l r c).pins = s.pins ∧
    (s.judgeCommand f i b l r c).freeCount = s.freeCount ∧
    (s.judgeCommand f i b l r c).pending = s.pending := by
  simp only [State.judgeCommand]
  (repeat' split) <;> simp

theorem State.handAll_frame (l : List SampleBinding) :
    (l.foldl State.handUnmapped s).weigher = s.weigher ∧
    (l.foldl State.handUnmapped s).queue = s.queue ∧
    (l.foldl State.handUnmapped s).holds = s.holds ∧ (l.foldl State.handUnmapped s).plan = s.plan ∧
    (l.foldl State.handUnmapped s).spout = s.spout ∧ (l.foldl State.handUnmapped s).dust = s.dust ∧
    (l.foldl State.handUnmapped s).gate = s.gate ∧
    (l.foldl State.handUnmapped s).contacts = s.contacts ∧
    (l.foldl State.handUnmapped s).bills = s.bills ∧
    (l.foldl State.handUnmapped s).service = s.service ∧
    (l.foldl State.handUnmapped s).notices = s.notices ∧
    (l.foldl State.handUnmapped s).modes = s.modes ∧ (l.foldl State.handUnmapped s).pins = s.pins ∧
    (l.foldl State.handUnmapped s).came = s.came ∧
    (l.foldl State.handUnmapped s).freeCount = s.freeCount ∧
    (l.foldl State.handUnmapped s).pending = s.pending := by
  induction l generalizing s with
  | nil => simp
  | cons a l ih => simp [ih]

@[simp] theorem State.judgeSlot_frame (f : Option Frame) (i : SlotNo) :
    (State.judgeSlot f s i).weigher = s.weigher ∧ (State.judgeSlot f s i).queue = s.queue ∧
    (State.judgeSlot f s i).holds = s.holds ∧ (State.judgeSlot f s i).plan = s.plan ∧
    (State.judgeSlot f s i).spout = s.spout ∧ (State.judgeSlot f s i).dust = s.dust ∧
    (State.judgeSlot f s i).gate = s.gate ∧ (State.judgeSlot f s i).contacts = s.contacts ∧
    (State.judgeSlot f s i).bills = s.bills ∧ (State.judgeSlot f s i).service = s.service ∧
    (State.judgeSlot f s i).modes = s.modes ∧ (State.judgeSlot f s i).pins = s.pins ∧
    (State.judgeSlot f s i).freeCount = s.freeCount ∧ (State.judgeSlot f s i).pending = s.pending := by
  simp only [State.judgeSlot]
  (repeat' split) <;> simp

theorem State.judgeAll_frame (f : Option Frame) (l : List SlotNo) :
    (l.foldl (State.judgeSlot f) s).weigher = s.weigher ∧
    (l.foldl (State.judgeSlot f) s).queue = s.queue ∧
    (l.foldl (State.judgeSlot f) s).holds = s.holds ∧
    (l.foldl (State.judgeSlot f) s).plan = s.plan ∧
    (l.foldl (State.judgeSlot f) s).spout = s.spout ∧
    (l.foldl (State.judgeSlot f) s).dust = s.dust ∧ (l.foldl (State.judgeSlot f) s).gate = s.gate ∧
    (l.foldl (State.judgeSlot f) s).contacts = s.contacts ∧
    (l.foldl (State.judgeSlot f) s).bills = s.bills ∧
    (l.foldl (State.judgeSlot f) s).service = s.service ∧
    (l.foldl (State.judgeSlot f) s).modes = s.modes ∧
    (l.foldl (State.judgeSlot f) s).pins = s.pins ∧
    (l.foldl (State.judgeSlot f) s).freeCount = s.freeCount ∧
    (l.foldl (State.judgeSlot f) s).pending = s.pending := by
  induction l generalizing s with
  | nil => simp
  | cons a l ih => simp [ih]

@[simp] theorem State.judgeSlots_frame (f : Option Frame) :
    (s.judgeSlots f).weigher = s.weigher ∧ (s.judgeSlots f).queue = s.queue ∧
    (s.judgeSlots f).holds = s.holds ∧ (s.judgeSlots f).plan = s.plan ∧
    (s.judgeSlots f).spout = s.spout ∧ (s.judgeSlots f).dust = s.dust ∧
    (s.judgeSlots f).gate = s.gate ∧ (s.judgeSlots f).contacts = s.contacts ∧
    (s.judgeSlots f).bills = s.bills ∧ (s.judgeSlots f).service = s.service ∧
    (s.judgeSlots f).modes = s.modes ∧ (s.judgeSlots f).pins = s.pins ∧
    (s.judgeSlots f).freeCount = s.freeCount ∧ (s.judgeSlots f).pending = s.pending := by
  simp [State.judgeSlots, State.handAll_frame, State.judgeAll_frame]

@[simp] theorem State.testQuality_frame :
    s.testQuality.weigher = s.weigher ∧ s.testQuality.queue = s.queue ∧
    s.testQuality.holds = s.holds ∧ s.testQuality.spout = s.spout ∧ s.testQuality.dust = s.dust ∧
    s.testQuality.contacts = s.contacts ∧ s.testQuality.loop = s.loop ∧
    s.testQuality.service = s.service ∧ s.testQuality.modes = s.modes ∧
    s.testQuality.pins = s.pins ∧ s.testQuality.freeCount = s.freeCount ∧
    s.testQuality.pending = s.pending := by
  simp only [State.testQuality]
  (repeat' split) <;> simp

@[simp] theorem State.endWindow_frame :
    s.endWindow.holds = s.holds ∧ s.endWindow.spout = s.spout ∧ s.endWindow.dust = s.dust ∧
    s.endWindow.contacts = s.contacts ∧ s.endWindow.service = s.service ∧
    s.endWindow.modes = s.modes ∧ s.endWindow.pins = s.pins ∧ s.endWindow.freeCount = s.freeCount ∧
    s.endWindow.pending = s.pending := by
  simp only [State.endWindow]
  (repeat' split) <;> simp

@[simp] theorem State.advanceWindow_frame (g : Bool) :
    (s.advanceWindow g).holds = s.holds ∧ (s.advanceWindow g).spout = s.spout ∧
    (s.advanceWindow g).dust = s.dust ∧ (s.advanceWindow g).contacts = s.contacts ∧
    (s.advanceWindow g).service = s.service ∧ (s.advanceWindow g).modes = s.modes ∧
    (s.advanceWindow g).pins = s.pins ∧ (s.advanceWindow g).freeCount = s.freeCount ∧
    (s.advanceWindow g).pending = s.pending := by
  simp only [State.advanceWindow]
  (repeat' split) <;> simp

@[simp] theorem State.enterRun_frame :
    s.enterRun.holds = s.holds ∧ s.enterRun.spout = s.spout ∧ s.enterRun.dust = s.dust ∧
    s.enterRun.contacts = s.contacts ∧ s.enterRun.service = s.service ∧
    s.enterRun.modes = s.modes ∧ s.enterRun.pins = s.pins ∧ s.enterRun.pending = s.pending := by
  simp only [State.enterRun]
  (repeat' split) <;> simp

@[simp] theorem State.settleMissed_frame (l : RunLoss) :
    (s.settleMissed l).weigher = s.weigher ∧ (s.settleMissed l).queue = s.queue ∧
    (s.settleMissed l).holds = s.holds ∧ (s.settleMissed l).plan = s.plan ∧
    (s.settleMissed l).spout = s.spout ∧ (s.settleMissed l).dust = s.dust ∧
    (s.settleMissed l).gate = s.gate ∧ (s.settleMissed l).contacts = s.contacts ∧
    (s.settleMissed l).bills = s.bills ∧ (s.settleMissed l).service = s.service ∧
    (s.settleMissed l).notices = s.notices ∧ (s.settleMissed l).modes = s.modes ∧
    (s.settleMissed l).pins = s.pins ∧ (s.settleMissed l).came = s.came ∧
    (s.settleMissed l).pending = s.pending := by
  simp only [State.settleMissed]
  (repeat' split) <;> simp

@[simp] theorem State.sendSubstitute_frame :
    s.sendSubstitute.weigher = s.weigher ∧ s.sendSubstitute.queue = s.queue ∧
    s.sendSubstitute.holds = s.holds ∧ s.sendSubstitute.plan = s.plan ∧
    s.sendSubstitute.spout = s.spout ∧ s.sendSubstitute.dust = s.dust ∧
    s.sendSubstitute.gate = s.gate ∧ s.sendSubstitute.contacts = s.contacts ∧
    s.sendSubstitute.bills = s.bills ∧ s.sendSubstitute.service = s.service ∧
    s.sendSubstitute.notices = s.notices ∧ s.sendSubstitute.modes = s.modes ∧
    s.sendSubstitute.pins = s.pins ∧ s.sendSubstitute.came = s.came ∧
    s.sendSubstitute.pending = s.pending := by
  simp only [State.sendSubstitute]
  (repeat' split) <;> simp

@[simp] theorem State.countOutage_frame :
    s.countOutage.holds = s.holds ∧ s.countOutage.dust = s.dust ∧
    s.countOutage.contacts.inputs = s.contacts.inputs ∧
    s.countOutage.contacts.debounce = s.contacts.debounce ∧
    s.countOutage.contacts.raw = s.contacts.raw ∧ s.countOutage.contacts.lost = s.contacts.lost ∧
    s.countOutage.contacts.latch = s.contacts.latch ∧ s.countOutage.pins = s.pins ∧
    s.countOutage.freeCount = s.freeCount ∧ s.countOutage.pending = s.pending := by
  simp only [State.countOutage]
  (repeat' split) <;> simp

end Sys2Proof.Machine
end

