-- ==== Sys2Proof/Laws/Events.lean ====
section
/-! SUPPORT. What the end of an event does to the notices and to what came about in it (R186), and what a whole event
leaves of the work it does. -/

namespace Sys2Proof.Machine

variable (s : State)

/-- A raised notice is marked until its event ends. -/
@[simp] theorem State.raiseNotice_came (e : Event) :
    (s.raiseNotice e).came = .noticeRaised e.source :: s.came := by
  simp [State.raiseNotice, State.note]

/-- A raised notice stands in the queue with the summary as it stood. -/
@[simp] theorem State.raiseNotice_notices (e : Event) :
    (s.raiseNotice e).notices = postNotice ⟨e, s.summary e⟩ s.notices := by
  simp [State.raiseNotice, State.note]

/-- The end of an event changes no event in the notice queue, and keeps their order. -/
@[simp] theorem State.finish_events :
    s.finish.notices.map (·.event) = s.notices.map (·.event) := by
  simp only [State.finish, State.setCame_notices, State.setNotices_notices, List.map_map]
  congr 1
  funext n
  simp only [Function.comp, State.resummed]
  split <;> rfl

/-- The end of an event leaves a queue without notices so. -/
@[simp] theorem State.finish_notices_nil : (s.finish.notices = []) ↔ s.notices = [] := by
  simp [State.finish]

/-- Where no source has raised several notices, the end of the event leaves the notice queue as it is. -/
theorem State.finish_notices (h : ∀ src, s.raisedSeveral src = false) : s.finish.notices = s.notices := by
  have : s.resummed = id := funext fun n => by simp [State.resummed, h]
  simp [State.finish, this]

/-- What came about is what came about in the work of the event, without the marks of raised notices. -/
@[simp] theorem State.finish_came : s.finish.came = s.came.filter (·.lasting) := by
  simp [State.finish]

/-- Whatever a row of the table names is known after the event exactly where it came about in it. -/
theorem State.finish_contains (o : Occurrence) (h : o.lasting = true) :
    s.finish.came.contains o = s.came.contains o := by
  rw [Bool.eq_iff_iff]
  simp [h]

/-- A source has raised several notices only where it is marked twice. -/
theorem State.raisedSeveral_begin (src : Source) : s.begin.raisedSeveral src = false := by
  simp [State.raisedSeveral, State.begin]

/-- A whole event is its work on the state with nothing come about yet, but for the notices and what came about. -/
@[simp] theorem State.event_frame (f : State → State) :
    (s.event f).weigher = (f s.begin).weigher ∧ (s.event f).queue = (f s.begin).queue ∧
    (s.event f).holds = (f s.begin).holds ∧ (s.event f).plan = (f s.begin).plan ∧
    (s.event f).spout = (f s.begin).spout ∧ (s.event f).dust = (f s.begin).dust ∧
    (s.event f).gate = (f s.begin).gate ∧ (s.event f).contacts = (f s.begin).contacts ∧
    (s.event f).bills = (f s.begin).bills ∧ (s.event f).loop = (f s.begin).loop ∧
    (s.event f).service = (f s.begin).service ∧ (s.event f).modes = (f s.begin).modes ∧
    (s.event f).pins = (f s.begin).pins ∧ (s.event f).freeCount = (f s.begin).freeCount ∧
    (s.event f).pending = (f s.begin).pending := by
  simp [State.event]

/-- An event whose work does nothing only forgets what came about before. -/
theorem State.event_of_eq {f : State → State} (h : f s.begin = s.begin) : s.event f = s.setCame [] := by
  have : s.begin.resummed = id := funext fun n => by simp [State.resummed, State.raisedSeveral_begin]
  rw [State.event, h, State.finish, this]
  simp [State.begin, State.setCame, State.setNotices]

end Sys2Proof.Machine
end

