-- ==== Sys2Proof/Laws/Reasons.lean ====
section
/-! SUPPORT. The stop set: what a reason's raising and clearing do to it, and which reasons each shared operation
leaves as they are. -/

namespace Sys2Proof.Machine

/-! ### The set -/

theorem StopReason.bit_lt (r : StopReason) : r.bit < 18 := by
  cases r <;> simp [StopReason.bit] ; omega

theorem StopReason.bit_inj {q r : StopReason} : q.bit = r.bit ↔ q = r := by
  constructor
  · intro h
    cases q <;> cases r <;> simp only [StopReason.bit] at h <;>
      first | rfl | omega | exact congrArg StopReason.dust (Fin.ext (by omega))
  · rintro rfl; rfl

theorem ReasonSet.has_add (s : ReasonSet) (r q : StopReason) :
    (s.add r).has q = (s.has q || decide (q = r)) := by
  simp [ReasonSet.add, ReasonSet.has, StopReason.bit_lt, StopReason.bit_inj, eq_comm]

theorem ReasonSet.has_remove (s : ReasonSet) (r q : StopReason) :
    (s.remove r).has q = (s.has q && decide (q ≠ r)) := by
  simp [ReasonSet.remove, ReasonSet.has, StopReason.bit_lt, StopReason.bit_inj, eq_comm]

@[simp] theorem ReasonSet.has_add_self (s : ReasonSet) (r : StopReason) : (s.add r).has r = true := by
  simp [ReasonSet.has_add]

@[simp] theorem ReasonSet.has_remove_self (s : ReasonSet) (r : StopReason) :
    (s.remove r).has r = false := by
  simp [ReasonSet.has_remove]

@[simp] theorem ReasonSet.has_add_of_ne (s : ReasonSet) {r q : StopReason} (h : q ≠ r) :
    (s.add r).has q = s.has q := by
  simp [ReasonSet.has_add, h]

@[simp] theorem ReasonSet.has_remove_of_ne (s : ReasonSet) {r q : StopReason} (h : q ≠ r) :
    (s.remove r).has q = s.has q := by
  simp [ReasonSet.has_remove, h]

/-- Each of the 18 bits is a reason's. -/
theorem StopReason.exists_bit (i : Nat) (h : i < 18) : ∃ r : StopReason, r.bit = i := by
  by_cases hz : 6 ≤ i ∧ i < 12
  · exact ⟨.dust ⟨i - 6, by omega⟩, by simp [StopReason.bit]; omega⟩
  · obtain rfl | rfl | rfl | rfl | rfl | rfl | rfl | rfl | rfl | rfl | rfl | rfl :
        i = 0 ∨ i = 1 ∨ i = 2 ∨ i = 3 ∨ i = 4 ∨ i = 5 ∨ i = 12 ∨ i = 13 ∨ i = 14 ∨ i = 15
          ∨ i = 16 ∨ i = 17 := by omega
    exacts [⟨.mode, rfl⟩, ⟨.loop, rfl⟩, ⟨.loopQuality, rfl⟩, ⟨.plan, rfl⟩, ⟨.spout, rfl⟩,
      ⟨.deck, rfl⟩, ⟨.pullCord, rfl⟩, ⟨.sway, rfl⟩, ⟨.hatch, rfl⟩, ⟨.weigh, rfl⟩, ⟨.zeroing, rfl⟩,
      ⟨.gateFeedback, rfl⟩]

/-- Two sets that hold the same reasons are one. -/
theorem ReasonSet.ext_has {s t : ReasonSet} (h : ∀ r, s.has r = t.has r) : s = t := by
  obtain ⟨x⟩ := s
  obtain ⟨y⟩ := t
  congr 1
  apply BitVec.eq_of_getLsbD_eq
  intro i hi
  obtain ⟨r, rfl⟩ := StopReason.exists_bit i hi
  exact h r

@[simp] theorem ReasonSet.has_empty (r : StopReason) : ReasonSet.empty.has r = false := by
  simp [ReasonSet.empty, ReasonSet.has]

/-- A set is empty exactly where it holds no reason. -/
theorem ReasonSet.isEmpty_iff (s : ReasonSet) : s.isEmpty = true ↔ ∀ r, s.has r = false := by
  constructor
  · intro h r
    have : s = .empty := by obtain ⟨x⟩ := s; simpa [ReasonSet.isEmpty, ReasonSet.empty] using h
    simp [this]
  · intro h
    have : s = .empty := ReasonSet.ext_has (by simpa using h)
    simp [this, ReasonSet.isEmpty, ReasonSet.empty]

/-! ### What each operation leaves of it -/

variable (s : State)

@[simp] theorem State.raisePlan_has {q : StopReason} (h1 : q ≠ .plan) :
    s.raisePlan.gate.stopSet.has q = s.gate.stopSet.has q := by
  simp [State.setStopSet, State.raisePlan, *]

@[simp] theorem State.clearPlan_has {q : StopReason} (h1 : q ≠ .plan) :
    s.clearPlan.gate.stopSet.has q = s.gate.stopSet.has q := by
  simp [State.setStopSet, State.clearPlan, *]

@[simp] theorem State.testGate_has {q : StopReason} :
    s.testGate.gate.stopSet.has q = s.gate.stopSet.has q := by
  simp only [State.testGate]
  (repeat' split) <;> simp [*]

@[simp] theorem State.enterStopping_has (c : StopCause) {q : StopReason} (h1 : q ≠ .plan) :
    (s.enterStopping c).gate.stopSet.has q = s.gate.stopSet.has q := by
  simp only [State.enterStopping]
  (repeat' split) <;> simp [*]

@[simp] theorem State.enterInterrupted_has {q : StopReason} (h1 : q ≠ .plan) :
    s.enterInterrupted.gate.stopSet.has q = s.gate.stopSet.has q := by
  simp only [State.enterInterrupted]
  (repeat' split) <;> simp [*]

@[simp] theorem State.enterPouring_has (t : Bool) {q : StopReason} (h1 : q ≠ .plan) :
    (s.enterPouring t).gate.stopSet.has q = s.gate.stopSet.has q := by
  simp only [State.enterPouring]
  (repeat' split) <;> simp [*]

@[simp] theorem State.enterWaitProceed_has {q : StopReason} :
    s.enterWaitProceed.gate.stopSet.has q = s.gate.stopSet.has q := by
  simp only [State.enterWaitProceed]
  (repeat' split) <;> simp [*]

@[simp] theorem State.addKind_has (r : StopReason) {q : StopReason} :
    (s.addKind r).gate.stopSet.has q = s.gate.stopSet.has q := by
  simp only [State.addKind]
  (repeat' split) <;> simp [*]

@[simp] theorem State.planReasonRaised_has (r : StopReason) {q : StopReason} (h1 : q ≠ .plan) :
    (s.planReasonRaised r).gate.stopSet.has q = s.gate.stopSet.has q := by
  simp only [State.planReasonRaised]
  (repeat' split) <;> simp [*]

@[simp] theorem State.endInterruption_has {q : StopReason} (h1 : q ≠ .plan) :
    s.endInterruption.gate.stopSet.has q = s.gate.stopSet.has q := by
  simp only [State.endInterruption]
  (repeat' split) <;> simp [*]

@[simp] theorem State.planReasonCleared_has {q : StopReason} (h1 : q ≠ .plan) :
    s.planReasonCleared.gate.stopSet.has q = s.gate.stopSet.has q := by
  simp only [State.planReasonCleared]
  (repeat' split) <;> simp [*]

@[simp] theorem State.raiseReason_has (r : StopReason) {q : StopReason}
    (h1 : q ≠ r) (h2 : q ≠ .plan) :
    (s.raiseReason r).gate.stopSet.has q = s.gate.stopSet.has q := by
  simp only [State.raiseReason]
  (repeat' split) <;> simp [State.setStopSet, *]

@[simp] theorem State.clearReason_has (r : StopReason) {q : StopReason}
    (h1 : q ≠ r) (h2 : q ≠ .plan) :
    (s.clearReason r).gate.stopSet.has q = s.gate.stopSet.has q := by
  simp only [State.clearReason]
  (repeat' split) <;> simp [State.setStopSet, *]

@[simp] theorem State.setReason_has (r : StopReason) (b : Bool) {q : StopReason}
    (h1 : q ≠ r) (h2 : q ≠ .plan) :
    (s.setReason r b).gate.stopSet.has q = s.gate.stopSet.has q := by
  simp only [State.setReason]
  (repeat' split) <;> simp [*]

@[simp] theorem State.planCarry_has {q : StopReason} (h1 : q ≠ .plan) :
    s.planCarry.gate.stopSet.has q = s.gate.stopSet.has q := by
  simp only [State.planCarry]
  (repeat' split) <;> simp [*]

@[simp] theorem State.planCredit_has {q : StopReason} (h1 : q ≠ .plan) :
    s.planCredit.gate.stopSet.has q = s.gate.stopSet.has q := by
  simp only [State.planCredit]
  (repeat' split) <;> simp [*]

@[simp] theorem State.testSpout_has {q : StopReason} (h1 : q ≠ .plan) :
    s.testSpout.gate.stopSet.has q = s.gate.stopSet.has q := by
  simp only [State.testSpout]
  (repeat' split) <;> simp [*]

@[simp] theorem State.recomputeBarriers_has {q : StopReason} :
    s.recomputeBarriers.gate.stopSet.has q = s.gate.stopSet.has q := by
  simp [State.recomputeBarriers, *]

@[simp] theorem State.spoutNotices_has (b : SpoutPosition) {q : StopReason} :
    (s.spoutNotices b).gate.stopSet.has q = s.gate.stopSet.has q := by
  simp only [State.spoutNotices]
  (repeat' split) <;> simp [*]

@[simp] theorem State.recomputeSpout_has (b : Bool) {q : StopReason}
    (h1 : q ≠ .spout) (h2 : q ≠ .plan) :
    (s.recomputeSpout b).gate.stopSet.has q = s.gate.stopSet.has q := by
  simp only [State.recomputeSpout]
  (repeat' split) <;> simp [*]

@[simp] theorem State.recordTip_has (h : HoldNo) (tip : Int) {q : StopReason}
    (h1 : q ≠ .spout) (h2 : q ≠ .plan) :
    (s.recordTip h tip).gate.stopSet.has q = s.gate.stopSet.has q := by
  simp only [State.recordTip]
  (repeat' split) <;> simp [*]

@[simp] theorem State.reportTip_has {q : StopReason} (h1 : q ≠ .spout) (h2 : q ≠ .plan) :
    s.reportTip.gate.stopSet.has q = s.gate.stopSet.has q := by
  simp only [State.reportTip]
  (repeat' split) <;> simp [*]

@[simp] theorem State.changeTipContact_has (a m : Bool) {q : StopReason}
    (h1 : q ≠ .spout) (h2 : q ≠ .plan) :
    (s.changeTipContact a m).gate.stopSet.has q = s.gate.stopSet.has q := by
  simp only [State.changeTipContact]
  (repeat' split) <;> simp [*]

@[simp] theorem State.rejudgeHatch_has {q : StopReason} (h1 : q ≠ .hatch) (h2 : q ≠ .plan) :
    s.rejudgeHatch.gate.stopSet.has q = s.gate.stopSet.has q := by
  simp only [State.rejudgeHatch]
  (repeat' split) <;> simp [*]

@[simp] theorem State.activeStepChanged_has {q : StopReason}
    (h1 : q ≠ .spout) (h2 : q ≠ .hatch) (h3 : q ≠ .plan) :
    s.activeStepChanged.gate.stopSet.has q = s.gate.stopSet.has q := by
  simp only [State.activeStepChanged]
  (repeat' split) <;> simp [*]

@[simp] theorem State.setTopUpCap_has (n : Nat) {q : StopReason} :
    (s.setTopUpCap n).gate.stopSet.has q = s.gate.stopSet.has q := by
  simp [State.setTopUpCap, *]

@[simp] theorem State.checkActive_has (st : Step) {q : StopReason} (h1 : q ≠ .plan) :
    (s.checkActive st).gate.stopSet.has q = s.gate.stopSet.has q := by
  simp only [State.checkActive]
  (repeat' split) <;> simp [*]

@[simp] theorem State.activate_has {q : StopReason}
    (h1 : q ≠ .spout) (h2 : q ≠ .hatch) (h3 : q ≠ .plan) :
    s.activate.gate.stopSet.has q = s.gate.stopSet.has q := by
  simp only [State.activate]
  (repeat' split) <;> simp [*]

@[simp] theorem State.leaveActive_has (f : Step → Step) {q : StopReason}
    (h1 : q ≠ .spout) (h2 : q ≠ .hatch) (h3 : q ≠ .plan) :
    (s.leaveActive f).gate.stopSet.has q = s.gate.stopSet.has q := by
  simp only [State.leaveActive]
  (repeat' split) <;> simp [*]

@[simp] theorem State.endActive_has (f : Step → Step) {q : StopReason}
    (h1 : q ≠ .spout) (h2 : q ≠ .hatch) (h3 : q ≠ .plan) :
    (s.endActive f).gate.stopSet.has q = s.gate.stopSet.has q := by
  simp only [State.endActive]
  (repeat' split) <;> simp [*]

@[simp] theorem State.drainTarget_has (st : Step) {q : StopReason}
    (h1 : q ≠ .spout) (h2 : q ≠ .hatch) (h3 : q ≠ .plan) :
    (s.drainTarget st).gate.stopSet.has q = s.gate.stopSet.has q := by
  simp only [State.drainTarget]
  (repeat' split) <;> simp [*]

@[simp] theorem State.drainDone_has (c : StopCause) {q : StopReason}
    (h1 : q ≠ .spout) (h2 : q ≠ .hatch) (h3 : q ≠ .plan) :
    (s.drainDone c).gate.stopSet.has q = s.gate.stopSet.has q := by
  simp only [State.drainDone]
  (repeat' split) <;> simp [*]

@[simp] theorem State.drainTest_has {q : StopReason}
    (h1 : q ≠ .spout) (h2 : q ≠ .hatch) (h3 : q ≠ .plan) :
    s.drainTest.gate.stopSet.has q = s.gate.stopSet.has q := by
  simp only [State.drainTest]
  (repeat' split) <;> simp [*]

@[simp] theorem State.planLoading_has {q : StopReason}
    (h1 : q ≠ .spout) (h2 : q ≠ .hatch) (h3 : q ≠ .plan) :
    s.planLoading.gate.stopSet.has q = s.gate.stopSet.has q := by
  simp only [State.planLoading]
  (repeat' split) <;> simp [*]

@[simp] theorem State.planEndLoading_has {q : StopReason}
    (h1 : q ≠ .spout) (h2 : q ≠ .hatch) (h3 : q ≠ .plan) :
    s.planEndLoading.gate.stopSet.has q = s.gate.stopSet.has q := by
  simp only [State.planEndLoading]
  (repeat' split) <;> simp [*]

@[simp] theorem State.planRestart_has {q : StopReason} (h1 : q ≠ .plan) :
    s.planRestart.gate.stopSet.has q = s.gate.stopSet.has q := by
  simp only [State.planRestart]
  (repeat' split) <;> simp [*]

@[simp] theorem State.targetReplaced_has {q : StopReason} (h1 : q ≠ .plan) :
    s.targetReplaced.gate.stopSet.has q = s.gate.stopSet.has q := by
  simp only [State.targetReplaced]
  (repeat' split) <;> simp [*]

@[simp] theorem State.putHold_has (h : HoldNo) (r : Option HoldRecord) {q : StopReason}
    (h1 : q ≠ .spout) (h2 : q ≠ .plan) :
    (s.putHold h r).gate.stopSet.has q = s.gate.stopSet.has q := by
  simp only [State.putHold]
  (repeat' split) <;> simp [*]

@[simp] theorem State.acceptDeck_has (d : Deck) (v : Half) (r : Bool) {q : StopReason}
    (h1 : q ≠ .spout) (h2 : q ≠ .plan) :
    (s.acceptDeck d v r).gate.stopSet.has q = s.gate.stopSet.has q := by
  simp only [State.acceptDeck]
  (repeat' split) <;> simp [*]

@[simp] theorem State.judgeDeck_has {q : StopReason} (h1 : q ≠ .deck) (h2 : q ≠ .plan) :
    s.judgeDeck.gate.stopSet.has q = s.gate.stopSet.has q := by
  simp only [State.judgeDeck]
  (repeat' split) <;> simp [*]

@[simp] theorem State.followCredit_has (d : Option HoldNo) {q : StopReason}
    (h1 : q ≠ .spout) (h2 : q ≠ .plan) :
    (s.followCredit d).gate.stopSet.has q = s.gate.stopSet.has q := by
  simp only [State.followCredit]
  (repeat' split) <;> simp [*]

@[simp] theorem State.creditParcel_has (p : Parcel) {q : StopReason}
    (h1 : q ≠ .spout) (h2 : q ≠ .plan) :
    (s.creditParcel p).gate.stopSet.has q = s.gate.stopSet.has q := by
  simp only [State.creditParcel]
  (repeat' split) <;> simp [*]

@[simp] theorem State.discharge_has (n : Nat) {q : StopReason} (h1 : q ≠ .spout) (h2 : q ≠ .plan) :
    (s.discharge n).gate.stopSet.has q = s.gate.stopSet.has q := by
  induction n generalizing s with
  | zero => simp [State.discharge]
  | succ n ih =>
    simp only [State.discharge]
    (repeat' split) <;> simp [*]

@[simp] theorem State.queueAdvance_has (before : Count32) {q : StopReason}
    (h1 : q ≠ .spout) (h2 : q ≠ .plan) :
    (s.queueAdvance before).gate.stopSet.has q = s.gate.stopSet.has q := by
  simp only [State.queueAdvance]
  (repeat' split) <;> simp [*]

@[simp] theorem State.advance_has (before : Count32) (n : Nat) {q : StopReason}
    (h1 : q ≠ .spout) (h2 : q ≠ .hatch) (h3 : q ≠ .plan) :
    (s.advance before n).gate.stopSet.has q = s.gate.stopSet.has q := by
  simp only [State.advance]
  (repeat' split) <;> simp [*]

@[simp] theorem State.endZero_has (o : ZeroOutcome) (p : Option Int) (e : WeighEvent) {q : StopReason}
    (h1 : q ≠ .zeroing) (h2 : q ≠ .plan) :
    (s.endZero o p e).gate.stopSet.has q = s.gate.stopSet.has q := by
  simp only [State.endZero]
  (repeat' split) <;> simp [*]

@[simp] theorem State.abortZero_has {q : StopReason} (h1 : q ≠ .zeroing) (h2 : q ≠ .plan) :
    s.abortZero.gate.stopSet.has q = s.gate.stopSet.has q := by
  simp only [State.abortZero]
  (repeat' split) <;> simp [*]

@[simp] theorem State.sensorLost_has (e : WeighEvent) {q : StopReason}
    (h1 : q ≠ .weigh) (h2 : q ≠ .zeroing) (h3 : q ≠ .plan) :
    (s.sensorLost e).gate.stopSet.has q = s.gate.stopSet.has q := by
  simp only [State.sensorLost]
  (repeat' split) <;> simp [*]

@[simp] theorem State.scalePart_has (a : Handed) {q : StopReason}
    (h1 : q ≠ .weigh) (h2 : q ≠ .zeroing) (h3 : q ≠ .plan) :
    (s.scalePart a).gate.stopSet.has q = s.gate.stopSet.has q := by
  simp only [State.scalePart]
  (repeat' split) <;> simp [*]

@[simp] theorem State.judgePulses_has (t : WeighTable) (v : Half) {q : StopReason}
    (h1 : q ≠ .weigh) (h2 : q ≠ .zeroing) (h3 : q ≠ .plan) :
    (s.judgePulses t v).1.gate.stopSet.has q = s.gate.stopSet.has q := by
  simp only [State.judgePulses]
  (repeat' split) <;> simp [*]

@[simp] theorem State.takePulses_has (t : WeighTable) (v : Half) {q : StopReason}
    (h1 : q ≠ .weigh) (h2 : q ≠ .zeroing) (h3 : q ≠ .plan) :
    (s.takePulses t v).1.gate.stopSet.has q = s.gate.stopSet.has q := by
  simp only [State.takePulses]
  (repeat' split) <;> simp [*]

@[simp] theorem State.losePulses_has {q : StopReason}
    (h1 : q ≠ .weigh) (h2 : q ≠ .zeroing) (h3 : q ≠ .plan) :
    s.losePulses.gate.stopSet.has q = s.gate.stopSet.has q := by
  simp only [State.losePulses]
  (repeat' split) <;> simp [*]

@[simp] theorem State.pulsesUnloaded_has (a : Handed) {q : StopReason}
    (h1 : q ≠ .weigh) (h2 : q ≠ .zeroing) (h3 : q ≠ .plan) :
    (s.pulsesUnloaded a).gate.stopSet.has q = s.gate.stopSet.has q := by
  simp only [State.pulsesUnloaded]
  (repeat' split) <;> simp [*]

@[simp] theorem State.pulsePart_has (a : Handed) {q : StopReason}
    (h1 : q ≠ .weigh) (h2 : q ≠ .zeroing) (h3 : q ≠ .plan) :
    (s.pulsePart a).1.gate.stopSet.has q = s.gate.stopSet.has q := by
  simp only [State.pulsePart]
  (repeat' split) <;> simp [*]

@[simp] theorem State.judgeWeigh_has {q : StopReason} (h1 : q ≠ .weigh) (h2 : q ≠ .plan) :
    s.judgeWeigh.gate.stopSet.has q = s.gate.stopSet.has q := by
  simp only [State.judgeWeigh]
  (repeat' split) <;> simp [*]

@[simp] theorem State.completeZero_has (t : WeighTable) {q : StopReason}
    (h1 : q ≠ .zeroing) (h2 : q ≠ .plan) :
    (s.completeZero t).gate.stopSet.has q = s.gate.stopSet.has q := by
  simp only [State.completeZero]
  (repeat' split) <;> simp [*]

@[simp] theorem State.calibrate_has (t : WeighTable) (n : Nat) {q : StopReason}
    (h1 : q ≠ .zeroing) (h2 : q ≠ .plan) :
    (s.calibrate t n).gate.stopSet.has q = s.gate.stopSet.has q := by
  simp only [State.calibrate]
  (repeat' split) <;> simp [*]

@[simp] theorem State.handCarry_has (before : Count32) (k : Nat) {q : StopReason} (h1 : q ≠ .plan) :
    (s.handCarry before k).gate.stopSet.has q = s.gate.stopSet.has q := by
  simp only [State.handCarry]
  (repeat' split) <;> simp [*]

@[simp] theorem State.massPart_has (t : WeighTable) (r : Travel) {q : StopReason}
    (h1 : q ≠ .zeroing) (h2 : q ≠ .spout) (h3 : q ≠ .hatch) (h4 : q ≠ .plan) :
    (s.massPart t r).gate.stopSet.has q = s.gate.stopSet.has q := by
  simp only [State.massPart]
  (repeat' split) <;> simp [*]

@[simp] theorem State.weigh_has (a b : Handed) {q : StopReason}
    (h1 : q ≠ .weigh) (h2 : q ≠ .zeroing) (h3 : q ≠ .spout) (h4 : q ≠ .hatch) (h5 : q ≠ .plan) :
    (s.weigh a b).gate.stopSet.has q = s.gate.stopSet.has q := by
  simp only [State.weigh]
  (repeat' split) <;> simp [*]

@[simp] theorem State.handReduction_has (n : ZoneNo) (v : Nat) {q : StopReason}
    (h1 : q ≠ .spout) (h2 : q ≠ .plan) :
    (s.handReduction n v).gate.stopSet.has q = s.gate.stopSet.has q := by
  simp only [State.handReduction]
  (repeat' split) <;> simp [*]

@[simp] theorem State.handHighCap_has (n : ZoneNo) (c : Option Nat) {q : StopReason} :
    (s.handHighCap n c).gate.stopSet.has q = s.gate.stopSet.has q := by
  simp [State.handHighCap, *]

@[simp] theorem State.finishZone_has (n : ZoneNo) (w : ZoneWork) {q : StopReason}
    (h1 : q ≠ .dust n) (h2 : q ≠ .spout) (h3 : q ≠ .plan) :
    (s.finishZone n w).gate.stopSet.has q = s.gate.stopSet.has q := by
  simp only [State.finishZone]
  (repeat' split) <;> simp [*]

@[simp] theorem State.answerGate_has (v : Half) {q : StopReason} :
    (s.answerGate v).gate.stopSet.has q = s.gate.stopSet.has q := by
  simp [State.answerGate, *]

@[simp] theorem State.acceptGate_has (v : Half) (r : Bool) {q : StopReason} :
    (s.acceptGate v r).gate.stopSet.has q = s.gate.stopSet.has q := by
  simp [State.acceptGate, *]

@[simp] theorem State.rejudgeSway_has {q : StopReason} (h1 : q ≠ .sway) (h2 : q ≠ .plan) :
    s.rejudgeSway.gate.stopSet.has q = s.gate.stopSet.has q := by
  simp only [State.rejudgeSway]
  (repeat' split) <;> simp [*]

@[simp] theorem State.announceCord_has (l : List ContactChange) {q : StopReason} :
    (s.announceCord l).gate.stopSet.has q = s.gate.stopSet.has q := by
  simp only [State.announceCord]
  (repeat' split) <;> simp [*]

@[simp] theorem State.announceSway_has (l : List ContactChange) {q : StopReason} :
    (s.announceSway l).gate.stopSet.has q = s.gate.stopSet.has q := by
  simp only [State.announceSway]
  (repeat' split) <;> simp [*]

@[simp] theorem State.announceHatch_has (l : List ContactChange) {q : StopReason} :
    (s.announceHatch l).gate.stopSet.has q = s.gate.stopSet.has q := by
  simp only [State.announceHatch]
  (repeat' split) <;> simp [*]

@[simp] theorem State.followHatch_has {q : StopReason} (h1 : q ≠ .hatch) (h2 : q ≠ .plan) :
    s.followHatch.gate.stopSet.has q = s.gate.stopSet.has q := by
  simp [State.followHatch, *]

@[simp] theorem State.handChange_has (r : ContactRole) (a m : Bool) {q : StopReason}
    (h1 : q ≠ .pullCord) (h2 : q ≠ .sway) (h3 : q ≠ .spout) (h4 : q ≠ .hatch) (h5 : q ≠ .plan) :
    (s.handChange r a m).gate.stopSet.has q = s.gate.stopSet.has q := by
  simp only [State.handChange]
  (repeat' split) <;> simp [*]

@[simp] theorem State.handInput_has (c : ContactChange) {q : StopReason}
    (h1 : q ≠ .pullCord) (h2 : q ≠ .sway) (h3 : q ≠ .spout) (h4 : q ≠ .hatch) (h5 : q ≠ .plan) :
    (s.handInput c).gate.stopSet.has q = s.gate.stopSet.has q := by
  simp [State.handInput, *]

@[simp] theorem State.handInputs_has (l : List ContactChange) {q : StopReason}
    (h1 : q ≠ .pullCord) (h2 : q ≠ .sway) (h3 : q ≠ .spout) (h4 : q ≠ .hatch) (h5 : q ≠ .plan) :
    (l.foldl State.handInput s).gate.stopSet.has q = s.gate.stopSet.has q := by
  induction l generalizing s with
  | nil => simp
  | cons a l ih => simp [*]

@[simp] theorem State.handChanges_has (l : List ContactChange) {q : StopReason}
    (h1 : q ≠ .pullCord) (h2 : q ≠ .sway) (h3 : q ≠ .spout) (h4 : q ≠ .hatch) (h5 : q ≠ .plan) :
    (s.handChanges l).gate.stopSet.has q = s.gate.stopSet.has q := by
  simp [State.handChanges, State.handInputs_has, *]

@[simp] theorem State.moveInputs_has (f : InputNo → ContactInput → ContactInput × Option Bool) {q : StopReason}
    (h1 : q ≠ .pullCord) (h2 : q ≠ .sway) (h3 : q ≠ .spout) (h4 : q ≠ .hatch) (h5 : q ≠ .plan) :
    (s.moveInputs f).gate.stopSet.has q = s.gate.stopSet.has q := by
  simp only [State.moveInputs]
  (repeat' split) <;> simp [*]

@[simp] theorem State.debounce_has (v : Half) {q : StopReason}
    (h1 : q ≠ .pullCord) (h2 : q ≠ .sway) (h3 : q ≠ .spout) (h4 : q ≠ .hatch) (h5 : q ≠ .plan) :
    (s.debounce v).gate.stopSet.has q = s.gate.stopSet.has q := by
  simp only [State.debounce]
  (repeat' split) <;> simp [*]

@[simp] theorem State.rejudgeLatch_has {q : StopReason} (h1 : q ≠ .pullCord) (h2 : q ≠ .plan) :
    s.rejudgeLatch.gate.stopSet.has q = s.gate.stopSet.has q := by
  simp only [State.rejudgeLatch]
  (repeat' split) <;> simp [*]

@[simp] theorem State.applyContacts_has (f : InputNo → ContactRole × Bool) (n : Nat) {q : StopReason}
    (h1 : q ≠ .pullCord) (h2 : q ≠ .sway) (h3 : q ≠ .spout) (h4 : q ≠ .hatch) (h5 : q ≠ .plan) :
    (s.applyContacts f n).gate.stopSet.has q = s.gate.stopSet.has q := by
  simp only [State.applyContacts]
  (repeat' split) <;> simp [*]

@[simp] theorem State.enterLoading_has {q : StopReason}
    (h1 : q ≠ .mode) (h2 : q ≠ .spout) (h3 : q ≠ .hatch) (h4 : q ≠ .plan) :
    s.enterLoading.gate.stopSet.has q = s.gate.stopSet.has q := by
  simp only [State.enterLoading]
  (repeat' split) <;> simp [*]

@[simp] theorem State.restartGateAndService_has {q : StopReason} :
    s.restartGateAndService.gate.stopSet.has q = s.gate.stopSet.has q := by
  simp [State.restartGateAndService, *]

@[simp] theorem State.loopRestart_has {q : StopReason}
    (h1 : q ≠ .mode) (h2 : q ≠ .zeroing) (h3 : q ≠ .spout) (h4 : q ≠ .plan) :
    s.loopRestart.gate.stopSet.has q = s.gate.stopSet.has q := by
  simp only [State.loopRestart]
  (repeat' split) <;> simp [*]

@[simp] theorem State.testQuality_has {q : StopReason} (h1 : q ≠ .loopQuality) (h2 : q ≠ .plan) :
    s.testQuality.gate.stopSet.has q = s.gate.stopSet.has q := by
  simp only [State.testQuality]
  (repeat' split) <;> simp [*]

@[simp] theorem State.endWindow_has {q : StopReason} (h1 : q ≠ .loopQuality) (h2 : q ≠ .plan) :
    s.endWindow.gate.stopSet.has q = s.gate.stopSet.has q := by
  simp only [State.endWindow]
  (repeat' split) <;> simp [*]

@[simp] theorem State.advanceWindow_has (g : Bool) {q : StopReason}
    (h1 : q ≠ .loopQuality) (h2 : q ≠ .plan) :
    (s.advanceWindow g).gate.stopSet.has q = s.gate.stopSet.has q := by
  simp only [State.advanceWindow]
  (repeat' split) <;> simp [*]

@[simp] theorem State.enterRun_has {q : StopReason} (h1 : q ≠ .loop) (h2 : q ≠ .plan) :
    s.enterRun.gate.stopSet.has q = s.gate.stopSet.has q := by
  simp only [State.enterRun]
  (repeat' split) <;> simp [*]

@[simp] theorem State.countOutage_has {q : StopReason}
    (h1 : q ≠ .mode) (h2 : q ≠ .zeroing) (h3 : q ≠ .spout) (h4 : q ≠ .plan) :
    s.countOutage.gate.stopSet.has q = s.gate.stopSet.has q := by
  simp only [State.countOutage]
  (repeat' split) <;> simp [*]

/-- After its raising a reason is in the set. -/
theorem State.raiseReason_has_self {r : StopReason} (h : r ≠ .plan) :
    (s.raiseReason r).gate.stopSet.has r = true := by
  simp only [State.raiseReason]
  split <;> simp_all [State.setStopSet]

/-- After its clearing a reason is not in the set. -/
theorem State.clearReason_has_self {r : StopReason} (h : r ≠ .plan) :
    (s.clearReason r).gate.stopSet.has r = false := by
  simp only [State.clearReason]
  split <;> simp_all [State.setStopSet]

/-- A reason that follows a condition is in the set exactly where the condition holds. -/
theorem State.setReason_has_self {r : StopReason} (h : r ≠ .plan) (b : Bool) :
    (s.setReason r b).gate.stopSet.has r = b := by
  cases b <;> simp [State.setReason, State.raiseReason_has_self, State.clearReason_has_self, h]


end Sys2Proof.Machine
end

