-- ==== Sys2Proof/WellFormed.lean ====
section
/-! DEFINITION. Which commands the spec lets a sender form. `exec` has a meaning for the others too. -/

namespace Sys2Proof

open Sys2Proof.Machine

/-- A request carries at most 59 parameter characters (R181, R197). -/
def paramsFit (p : List Byte) : Bool := decide (p.length ≤ 59)

/-- The frame's sync is the pattern (R165, R196). -/
def syncGood (f : Frame) : Bool := decide (f.sync = Config.syncPattern)

/-- A loop period event that is a frame's arrival has a good sync (R165). -/
def LoopPeriod.wellFormed : LoopPeriod → Bool
  | .frame f => syncGood f
  | .expiry => true

/-- The frame of a cause has a good sync (R165, R166). -/
def Cause.wellFormed : Cause → Bool
  | .frame f => syncGood f
  | .frameOutsideRun f _ => syncGood f
  | _ => true

/-- A command is well formed: a request's parameters fit a message (R181), an unknown request's code is not of the
table (R183), a frame's sync is good where the row speaks of a frame of RUN or of a good sync (R165, R166), the
frame that completes the proving count has a good check (R166), and the one that raises LOOP_QUALITY a bad one
(R167). -/
def Instr.wellFormed : Instr → Bool
  | .loadWeigh p | .zeroScale p | .abortZero p | .readWeigh p | .readTransit p => paramsFit p
  | .loadVessel p | .loadHold p | .readHold p => paramsFit p
  | .appendStep p | .insertStep p | .deleteStep p | .setTarget p | .skipStep p => paramsFit p
  | .holdPlan p | .proceed p | .prunePlan p | .readPlan p => paramsFit p
  | .loadAxis p | .readSpout p => paramsFit p
  | .loadZone p | .ackDust p | .readExposure p | .readZone p => paramsFit p
  | .readGate p | .loadContact p | .ackContact p => paramsFit p
  | .openLot p | .closeBill p | .releaseBill p | .readBill p => paramsFit p
  | .loadSlot p | .loadLoop p | .readLoop p | .pollNotice p => paramsFit p
  | .beginLoading p | .endLoading p | .suspend p | .resume p | .readMode p | .partReset p =>
    paramsFit p
  | .unknownRequest code p => paramsFit p && !requestCodes.contains code
  | .requestOverrun _ p => paramsFit p
  | .loopPeriodEvent f => syncGood f
  | .timebaseExpiry | .lineSignalLost | .lineSignalPresent => true
  | .provingComplete f => syncGood f && checkGood f
  | .runLost _ => true
  | .errorWindowEnd f => syncGood f
  | .qualityLow f => syncGood f && !checkGood f
  | .bindingNewlyLost _ p => p.wellFormed
  | .commandTakeover _ p => p.wellFormed
  | .frameFormation | .replySent => true
  | .weighingEvent | .pulsesImplausibleLost | .pulseRearm | .segmentClose | .deferredClose => true
  | .parcelDischarge | .zeroComplete => true
  | .spoutReadyPour c => c.wellFormed
  | .interruptionEnd c => c.wellFormed
  | .drainStart | .drainComplete => true
  | .deckSample _ | .axisSample _ | .axisUnknown _ | .axisRecovery _ => true
  | .dustSample _ | .dustRise _ | .dustFall _ | .dustStopFall _ => true
  | .purgeTimerTick _ | .purgeExpiry _ | .dustLatch _ | .dustReturn _ => true
  | .contactsSample | .contactDebounceChange _ | .gatePosSample => true
  | .porstAsserted | .powerOn _ _ | .partResetEffect _ | .loopRestart => true
  | .frameArrivesOutsideRun f _ => syncGood f

end Sys2Proof
end

