-- ==== Sys2Proof/Tests/Slice0.lean ====
section
/-! SUPPORT. Tests: the smoke tests of `WellFormed`, the spec's worked examples one step at a time, and for each
statement of Certificates/Slice0/Obligations.lean a witness: states and operands that meet its hypotheses, clause by
clause, at the boundary values of their ranges. -/

namespace Sys2Proof.Tests

open Sys2Proof Sys2Proof.Machine

/-! ### Small states -/

/-- The state after a command. -/
def after (i : Instr) (s : State) : State :=
  match exec i s with
  | .next t => t
  | .fault _ => s
  | .refused _ => s

/-- The state with this handed over by the loop port for a binding. -/
def given (s : State) (b : SampleBinding) (h : Handed) : State := s.setLoop (s.loop.hand b h)

/-- The state with these handed over for the weigher's two bindings. -/
def belt (s : State) (scale pulses : Handed) : State := given (given s .scaleLoad scale) .beltPulses pulses

/-- The belt of the pour plan's worked examples. -/
def table : WeighTable :=
  { zero := 0, span := 32768, deadband := 0, pulsePitch := 125, maxDelta := 1000, beltLength := 10000,
    zeroLimit := 20, transitDistance := 60000, segmentLength := 30000, gateClosedLimit := 10 }

/-- The vessel of the spout's worked examples. -/
def vessel : VesselRecord :=
  { baseMoment := 0, aftLimit := -400000000, forwardLimit := 700000000, cargoLimit := 3000000,
    defaultDensity := 750, allowance := 6000, tolerance := 1500, topUpCap := 250, forePosition := 2000,
    aftPosition := 14000, coamingClearance := 500, highDropSlope := 4, highDropFloor := 400, tipRadius := 450 }

/-- Hold 4 of the spout's worked examples. -/
def hatch : HoldStatic :=
  { travelMin := 5200, travelMax := 6900, reachMin := 8000, reachMax := 22000, coaming := 1100, depth := 9400,
    area := 3120, lever := 10, heap := 600, minDrop := 800, maxDrop := 5000, preload := 0 }

/-- Hold 4 filled 4,200 mm deep at a deck level of -1,800 mm. -/
def filled : HoldRecord :=
  HoldRecord.derive { static := hatch, reference := 6050, credited := 0, volume := 1310400, offset := none,
                      deckLevel := -1800, floor := 0, coamingTop := 0, fill := 0, surface := 0 }

/-- An axis that stands at a position. -/
def axisAt (lower upper : Int) (vmax margin gain step : Nat) (at_ : Int) : AxisRecord :=
  { AxisRecord.restart with entry := some ⟨lower, upper, vmax, margin, gain, step⟩, known := true,
                            accepted := some at_ }

/-- A lot with these figures. -/
def lot (identifier weighed inTransit : Nat) : Lot :=
  { identifier := BitVec.ofNat 32 identifier, commodity := 3, density := 780, weighed := weighed,
    inTransit := inTransit, spill := 0, unresolved := weighed - inTransit, holds := [], totalizerAtOpen := 0,
    dustStops := 0, restarts := 0 }

/-- A step on hold 4 and bill 2. -/
def stepTo (target : Nat) (state : StepState) : Step := { newStep 3 1 target false with state := state }

/-- A map with the sample bindings in slots 0 to 14 and the command bindings in slots 15 to 18. -/
def fullMap : Vector SlotEntry 40 :=
  Vector.ofFn (fun i => (sampleBindings.map (fun b => SlotEntry.sample b 5 ⟨0, none, none⟩)
    ++ commandBindings.map (fun b => SlotEntry.command b 5 ⟨0, none, none⟩ ⟨false, 0, false⟩)).getD i.val .unused)

/-- The line as it pours: LOADING, the loop in RUN, every table loaded, the spout over hold 4 in the band, a step
ACTIVE on hold 4 and bill 2, the hatch open, and no stop reason. -/
def pouring : State :=
  { State.reset with
    weigher := { Weigher.restart with table := some table, tracker := .tracking, tag := some 1 }
    holds := (HoldTable.recomputeHeights { HoldTable.restart with
      vessel := some vessel, holds := HoldTable.restart.holds.set 3 (some filled), fore := -1800,
      aft := -1800, foreSeen := true, aftSeen := true, established := true }).reweigh
    plan := ⟨[stepTo 200000 .active], .pouring, none⟩
    spout := { Spout.restart with
      travel := axisAt 0 25000 1000 500 8 100 6000, reach := axisAt 0 40000 1000 500 8 100 15000,
      drop := axisAt (-15000) 5000 600 300 8 2000 (-2150), position := .over 3, band := some .inBand }
    gate := { Gate.restart with stopSet := .empty, commandCap := 600, position := some 612 }
    contacts := { Contacts.restart with
      inputs := ((Contacts.restart.inputs.set 0 ⟨.hatchOpen 3, false, true, 0, false⟩).set 1
        ⟨.tipContact, false, false, 0, false⟩).set 2 ⟨.pullCord, false, false, 0, false⟩
      debounce := some 2 }
    bills := { BillStore.cleared with records := BillStore.cleared.records.set 1 (.opened (lot 7 0 0)) }
    loop := { LoopPort.restart with state := .run, timebaseLocked := true, slots := fullMap }
    modes := { State.reset.modes with mode := .loading }
    pins := { State.reset.pins with lineSignal := true } }

/-- The same line in SETUP with the plan IDLE. -/
def setUp : State :=
  { pouring with plan := .restart, modes := State.reset.modes, gate := .restart,
                 weigher := { pouring.weigher with tag := none } }

/-- A state whose mode is another. -/
def inMode (s : State) (m : Mode) : State := { s with modes := { s.modes with mode := m } }

/-- A state whose plan is in another state. -/
def planIn (s : State) (p : PlanState) : State := { s with plan := { s.plan with state := p } }

/-- A state with other stop reasons beside those that stand. -/
def stoppedBy (s : State) (r : StopReason) : State :=
  { s with gate := { s.gate with stopSet := s.gate.stopSet.add r } }

/-- A state with this in place of its DROP axis. -/
def dropAxis (s : State) (r : AxisRecord) : State := { s with spout := { s.spout with drop := r } }

/-- A state whose weigher has this table. -/
def weighsWith (s : State) (t : WeighTable) : State := { s with weigher := { s.weigher with table := some t } }

/-! ### WellFormed refuses what is ill formed -/

/-- A frame with good sync and good check that carries nothing. -/
def emptyFrame : Frame :=
  withCheck { sync := Config.syncPattern, frameCount := 7, attention := false,
              slots := Vector.replicate 40 ⟨false, false, 0⟩, char1 := ⟨false, false, 0⟩,
              char2 := ⟨false, false, 0⟩, check := 0 }

/-- The same frame with its check spoilt. -/
def badFrame : Frame := { emptyFrame with check := ~~~ emptyFrame.check }

/-- The same frame with its sync spoilt. -/
def strayFrame : Frame := { emptyFrame with sync := 0 }

theorem test_wellFormed_refuses_sixty_parameters :
    (Instr.readMode (List.replicate 60 0)).wellFormed = false
    ∧ (Instr.requestOverrun 0x10 (List.replicate 60 0)).wellFormed = false
    ∧ (Instr.unknownRequest 0x00 (List.replicate 60 0)).wellFormed = false
    ∧ (Instr.readMode (List.replicate 59 0)).wellFormed = true := by decide

theorem test_wellFormed_refuses_a_table_code_as_unknown :
    (Instr.unknownRequest 0x90 []).wellFormed = false
    ∧ (Instr.unknownRequest 0x91 []).wellFormed = true := by decide

theorem test_wellFormed_refuses_a_bad_sync :
    (Instr.loopPeriodEvent strayFrame).wellFormed = false
    ∧ (Instr.errorWindowEnd strayFrame).wellFormed = false
    ∧ (Instr.frameArrivesOutsideRun strayFrame true).wellFormed = false
    ∧ (Instr.provingComplete strayFrame).wellFormed = false
    ∧ (Instr.qualityLow strayFrame).wellFormed = false
    ∧ (Instr.bindingNewlyLost .gatePos (.frame strayFrame)).wellFormed = false
    ∧ (Instr.commandTakeover .gateCmd (.frame strayFrame)).wellFormed = false
    ∧ (Instr.spoutReadyPour (.frame strayFrame)).wellFormed = false
    ∧ (Instr.interruptionEnd (.frameOutsideRun strayFrame true)).wellFormed = false := by
  decide +kernel

theorem test_wellFormed_refuses_the_wrong_check :
    (Instr.provingComplete badFrame).wellFormed = false
    ∧ (Instr.qualityLow emptyFrame).wellFormed = false
    ∧ (Instr.provingComplete emptyFrame).wellFormed = true
    ∧ (Instr.qualityLow badFrame).wellFormed = true := by decide +kernel

/-! ### Decoding and the request code table (R198) -/

/-- No row of the table has bits, so no word spells a command. -/
theorem test_no_word_spells_a_command :
    decodeTableWord 8 0x90 = none ∧ State.reset.withFetchWord 8 0x90 = State.reset := by
  exact ⟨rfl, rfl⟩

theorem test_the_request_tables_agree :
    requestTable.map (·.1) = requestCodes ∧ parameterCounts.map (·.1) = requestCodes := by decide

theorem test_core_is_the_step_from_reset :
    Sys2Proof.core.reset = State.reset ∧ State.reset.pending = [] := ⟨rfl, rfl⟩

/-! ### The worked examples of the spec, one step at a time -/

/-- The belt of chapter 1's worked examples. -/
def beltTable : WeighTable := { table with zero := 130, span := 33096, deadband := 50, maxDelta := 40 }

/-- "Worked example: one weighing event" (chapter 1), before. -/
def oneEvent : State :=
  { State.reset with
    weigher := { Weigher.restart with
      table := some beltTable, heldRaw := 5180, corrected := 5101, tracker := .tracking, pulseRef := 65530,
      lastDelta := 17, odometer := 4294966000#32, residue := 640000, tag := some 2 }
    bills := { BillStore.cleared with
      records := BillStore.cleared.records.set 2 (.opened (lot 5 84210 3150)), totalizer := 1250400#32 }
    queue := ⟨[], some ⟨some 2, false, 41, 4294900000#32⟩, false⟩ }

/-- Chapter 1: 5,230 is corrected to 5,151, 18 pulses are 2,250 of travel, and 11,589,750 mg with the residue carry
12 kg. -/
theorem test_weighing_event_example :
    let t := after .weighingEvent (belt oneEvent (.fresh 5230) (.fresh 12))
    (t.weigher.heldRaw, t.weigher.corrected, t.weigher.residue) = (5230, 5151, 229750)
    ∧ (t.weigher.pulseRef, t.weigher.lastDelta, t.weigher.odometer) = (12, 18, 954#32)
    ∧ t.bills.totalizer = 1250412#32 := by decide +kernel

/-- Chapter 1, "a pulse outage and re-arming": the third implausible sample loses the tracker. -/
theorem test_third_implausible_pulse_is_lost :
    let s := weighsWith oneEvent { beltTable with zero := 0, span := 32768, deadband := 0 }
    let s := { s with weigher := { s.weigher with pulseRef := 5000, implausible := 2 } }
    let t := after .pulsesImplausibleLost (belt s .notFresh (.fresh 9000))
    (t.weigher.tracker, t.weigher.pulseRef, t.weigher.implausible) = (.lost, 9000, 0)
    ∧ t.gate.stopSet.has .weigh = true := by decide +kernel

/-- The first sample after LOST re-arms the tracker and forms no travel. -/
theorem test_rearming_forms_no_travel :
    let s := { oneEvent with weigher := { oneEvent.weigher with tracker := .lost } }
    let t := after .pulseRearm (belt s .notFresh (.fresh 9030))
    (t.weigher.tracker, t.weigher.pulseRef, t.weigher.catchUp) = (.tracking, 9030, true)
    ∧ t.weigher.odometer = oneEvent.weigher.odometer := by decide +kernel

/-- Chapter 2, "deferral in a full queue": the carry goes to the open parcel's lot though the tag is NONE, and the
advance then makes the deferred close. -/
theorem test_deferred_parcel_keeps_its_lot :
    let s := { oneEvent with
      weigher := { oneEvent.weigher with tag := none }
      queue := ⟨[], some ⟨some 2, false, 6, 4294900000#32⟩, true⟩ }
    let t := after .weighingEvent (belt s (.fresh 5230) (.fresh 12))
    t.queue.closed.map (·.parcel.mass) = [18] ∧ t.queue.openParcel.map (·.lot) = some none
    ∧ t.queue.closeDeferred = false ∧ t.weigher.account = ⟨0, 0, 0⟩ := by decide +kernel

/-- Chapter 4, "anticipation, drain and one top-up": 190,100 and 3,901 in transit with the allowance of 6,000 meet the
target of 200,000. -/
theorem test_anticipation_example :
    let s := { pouring with
      plan := ⟨[{ stepTo 200000 .active with credited := 190100 }], .pouring, none⟩
      queue := ⟨[], some ⟨some 1, false, 3880, 0⟩, false⟩
      bills := { pouring.bills with records := pouring.bills.records.set 1 (.opened (lot 7 10000 3880)) }
      weigher := { pouring.weigher with corrected := 4000 } }
    let t := after .weighingEvent (belt s .notFresh (.fresh 42))
    t.plan.state = .stopping .target ∧ t.gate.stopSet.has .plan = true
    ∧ (t.bills.records.get 1).inTransit = 3901 := by decide +kernel

/-- Chapter 5, "band, cap, clamp and contact": at -5,100 the barrier leaves 500 mm, and -900 is clamped to -100. -/
theorem test_clamp_example :
    let s := dropAxis pouring { pouring.spout.drop with positionGap := 1 }
    let t := after (.axisSample .drop) (given s .dropPos (.fresh (-5100)))
    t.spout.drop.down.distance = 500 ∧ t.clampCommand .drop (-900) = -100 := by decide +kernel

/-- The zone of chapter 6's worked example of the gallery. -/
def gallery : ZoneRecord :=
  { warn := 500, high := 1500, stop := 3000, hysteresis := 200, rise := 3, fall := 3, highCap := 300,
    reduction := 0, purgeTime := 600, threshold := 60000 }

/-- A zone in a state with its counts. -/
def zoneIn (state : ZoneState) (warn high stop fall : Nat) : Zone :=
  { Zone.restart with record := some gallery, state := state, latest := some 1650, warnCount := warn,
                      highCount := high, stopCount := stop, fallCount := fall }

/-- The pouring line with dust zone 3 as given. -/
def dusty (z : Zone) : State := { pouring with dust := pouring.dust.set 2 z }

/-- Chapter 6: the third sample at or above the warn level, of which the last two are at or above the high level,
confirms WARN, and the next one HIGH with its cap. -/
theorem test_dust_rise_example :
    let t := after (.dustSample 2) (given (dusty (zoneIn .clear 2 1 0 0)) (.dust 2) (.fresh 1700))
    let u := after (.dustRise 2) (given t (.dust 2) (.fresh 1650))
    (t.dust.get 2).state = .warn ∧ (u.dust.get 2).state = .high ∧ u.gate.highCaps.get 2 = some 300 := by
  decide +kernel

/-- Chapter 9, "a drop command through a gap": T follows the arriving one, and is toggled where the value written
moves without it. -/
theorem test_a_moved_command_moves_its_toggle :
    writtenT ⟨false, 5, true⟩ true true 5 = true ∧ writtenT ⟨false, 5, true⟩ true true 6 = false
    ∧ writtenT ⟨false, 5, true⟩ true false 5 = false
    ∧ writtenT ⟨false, 5, true⟩ false false 5 = true ∧ writtenT ⟨true, 0, true⟩ false true 0 = false := by decide

/-- Chapter 10, "an overrun": a request that completes while a reply is unsent is reported by the next reply's
OVERRUN flag, and a waiting notice by its ATTENTION flag. -/
theorem test_overrun_is_reported_once :
    let s := { pouring with service := { pouring.service with reply := some ⟨[0, 2, 0x90, 0], 1⟩ } }
    let t := after (.requestOverrun 0x13 [0]) s
    let u := after (.readMode []) { t with service := { t.service with reply := none } }
    t.service.overrun = true ∧ u.service.overrun = false
    ∧ u.service.reply.map (·.chars.take 4) = some [0, 5, 0xA4, 0x40] := by decide +kernel

/-- Chapter 11: PROVING takes eight good frames to RUN. -/
theorem test_eighth_good_frame_leads_to_run :
    let s := { State.reset with
      pins := { State.reset.pins with lineSignal := true }
      loop := { LoopPort.restart with state := .proving, provingCount := 7 } }
    (after (.provingComplete emptyFrame) s).loop.state = .run
    ∧ (after (.frameArrivesOutsideRun badFrame true) s).loop.provingCount = 0 := by decide +kernel

/-! ### Witnesses: every command -/

/-- The reply of a POLL_NOTICE on an empty queue, not yet sent. -/
def replying (s : State) : State := { s with service := { s.service with reply := some ⟨[0, 3, 0x90, 0, 0], 0⟩ } }

theorem witness_StepTakesTheFrontCommand :
    ({ State.reset with pending := [.pollNotice [], .readMode []] } : State).pending
      = .pollNotice [] :: [.readMode []]
    ∧ State.reset.pending = [] := ⟨rfl, rfl⟩

theorem witness_EveryCommandIsAnswered :
    insideEvent .segmentClose = some (.segmentClose, .weighingEvent)
    ∧ insideEvent (.partResetEffect (.replyDiscarded .lineLost)) = some (.partReset, .lineSignalLost)
    ∧ pouring.pins.porst = false := ⟨rfl, rfl, rfl⟩

theorem witness_PorstStopsTheTraffic : (after .porstAsserted pouring).pins.porst = true := rfl

theorem witness_RequestsAreJudgedBeforeTheirBlocks :
    ((0x10, 20) ∈ parameterCounts ∧ setUp.pins.porst = false ∧ setUp.service.reply = none
      ∧ (List.replicate 19 (0 : Byte)).length ≠ 20 ∧ (List.replicate 21 (0 : Byte)).length ≠ 20)
    ∧ ((replying setUp).pins.porst = false ∧ (replying setUp).service.reply ≠ none)
    ∧ ((∀ count, ((0x00, count) : Byte × Nat) ∉ parameterCounts)
      ∧ ∀ count, ((0xFF, count) : Byte × Nat) ∉ parameterCounts) := by
  have absent : ∀ code : Byte, code ∉ requestCodes → ∀ count, ((code, count) : Byte × Nat) ∉ parameterCounts :=
    fun code h count m => h (test_the_request_tables_agree.2 ▸ List.mem_map_of_mem (f := Prod.fst) m)
  exact ⟨by decide, by decide, absent _ (by decide), absent _ (by decide)⟩

theorem witness_ReadsAnswerAndChangeNothing :
    pouring.hears 1 [0x00] ∧ pouring.hears 0 []
    ∧ ((0x00 : Byte).toNat / 16 = 0 ∧ (0x10 : Byte).toNat / 16 = 1 ∧ (0x2F : Byte).toNat / 16 = 2
      ∧ (0x30 : Byte).toNat / 16 = 0 + 3 ∧ (0x60 : Byte).toNat / 16 = 3 + 3
      ∧ 6 < (0x70 : Byte).toNat / 16) := ⟨⟨rfl, rfl, rfl⟩, ⟨rfl, rfl, rfl⟩, by decide⟩

theorem witness_FieldsAreReadBack :
    (255 < 256 ^ 1 ∧ -(256 ^ 1 : Int) ≤ 2 * (-128) ∧ 2 * (127 : Int) < 256 ^ 1)
    ∧ (List.replicate 20 (0 : Byte)).length = 20 ∧ (List.replicate 47 (0 : Byte)).length = 47
    ∧ (List.replicate 11 (0 : Byte)).length = 11 ∧ (List.replicate 18 (0 : Byte)).length = 18
    ∧ ((List.replicate 26 (0 : Byte)).length = 26
      ∧ ({ filled with static := readHoldStatic (0x41 :: List.replicate 26 0) } : HoldRecord).static
        = readHoldStatic (0x41 :: List.replicate 26 0)) := by decide

/-! ### Witnesses: belt weighing -/

/-- LOAD_WEIGH's parameters for a table. -/
def weighParams (t : WeighTable) : List Byte := encodeFields (weighTableReport t)

/-- A table whose transit distance spans exactly 64 segments. -/
def longBelt : WeighTable := { table with zero := 2000, transitDistance := 32000, segmentLength := 500 }

theorem witness_LoadWeighReplacesTheTable :
    (setUp.hears 20 (weighParams longBelt) ∧ pouring.hears 20 (weighParams longBelt))
    ∧ (pouring.modes.mode ≠ .setup)
    ∧ (({ setUp with weigher := { setUp.weigher with zeroCal := ⟨true, 0, 0, .none, none⟩ } } : State).hears 20
        (weighParams longBelt))
    ∧ (setUp.modes.mode = .setup ∧ setUp.weigher.zeroCal.running = false
      ∧ (readWeighTable (weighParams longBelt)).inRange = true
      ∧ (readWeighTable (weighParams { longBelt with transitDistance := 32001 })).inRange = false
      ∧ (readWeighTable (weighParams { longBelt with zero := 2001 })).inRange = false) :=
  ⟨⟨⟨rfl, rfl, rfl⟩, rfl, rfl, rfl⟩, by decide, ⟨rfl, rfl, rfl⟩, by decide⟩

/-- SETUP with the gate at this position. -/
def gateAt (g : Option Nat) (lost : Bool) : State :=
  { setUp with gate := { setUp.gate with position := g, positionLost := lost } }

/-- SETUP with a calibration running. -/
def calibrating : State :=
  { gateAt (some 4) false with
    weigher := { setUp.weigher with zeroCal := ⟨true, 0, 0, .none, none⟩ }
    gate := { setUp.gate with position := some 4, stopSet := setUp.gate.stopSet.add .zeroing } }

theorem witness_ZeroScaleBeginsACalibration :
    (inMode setUp .suspended).hears 0 [] ∧ State.reset.hears 0 [] ∧ calibrating.hears 0 []
    ∧ (gateAt (some 10) false).hears 0 []
    ∧ ((inMode setUp .suspended).modes.mode = .suspended ∧ State.reset.weigher.table = none
      ∧ calibrating.weigher.table = some table ∧ calibrating.weigher.zeroCal.running = true)
    ∧ ((gateAt (some 10) true).weigher.zeroCal.running = false ∧ (gateAt (some 10) true).gate.positionLost = true)
    ∧ ((gateAt none false).gate.position = none ∧ (gateAt none false).gate.positionLost = false
      ∧ (gateAt (some 11) false).gate.position = some 11 ∧ table.gateClosedLimit < 11)
    ∧ ((gateAt (some 10) false).weigher.table = some table ∧ (gateAt (some 10) false).weigher.scaleLost = false
      ∧ (gateAt (some 10) false).weigher.tracker ≠ .lost ∧ (gateAt (some 10) false).gate.position = some 10
      ∧ (10 : Nat) ≤ table.gateClosedLimit ∧ (gateAt (some 10) false).plan.state ≠ .pouring
      ∧ (gateAt (some 10) false).plan.state ≠ .interrupted) :=
  ⟨⟨rfl, rfl, rfl⟩, ⟨rfl, rfl, rfl⟩, ⟨rfl, rfl, rfl⟩, ⟨rfl, rfl, rfl⟩, by decide, by decide, by decide, by decide⟩

theorem witness_AbortZeroEndsTheCalibration :
    calibrating.hears 0 [] ∧ setUp.hears 0 [] ∧ calibrating.weigher.zeroCal.running = true
    ∧ calibrating.plan.state ≠ .interrupted ∧ setUp.weigher.zeroCal.running = false :=
  ⟨⟨rfl, rfl, rfl⟩, ⟨rfl, rfl, rfl⟩, rfl, by decide, rfl⟩

/-- What the scale clause asks: the weigher waits for this scale state, with no new pulse sample. -/
def scaleWaits (s : State) (tab : WeighTable) (h : Handed) : Prop :=
  s.pins.porst = false ∧ s.weigher.table = some tab ∧ s.weighAgrees
    ∧ (s.waitingFor .scaleLoad).head? = some h
    ∧ ((s.waitingFor .beltPulses).head? = some .notFresh ∨ (s.waitingFor .beltPulses).head? = some .lost)

/-- The pouring line with the scale LOST and WEIGH standing. -/
def scaleLost : State :=
  stoppedBy { pouring with weigher := { pouring.weigher with scaleLost := true },
                           plan := ⟨[stepTo 200000 .active], .interrupted, none⟩ } .weigh

theorem witness_ScaleSampleIsCorrected :
    (scaleWaits (belt pouring (.fresh 20000) .notFresh) table (.fresh 20000)
      ∧ Handed.value (.fresh 20000) = some 20000)
    ∧ scaleWaits (belt pouring (.fresh 20001) .notFresh) table (.fresh 20001)
    ∧ scaleWaits (belt scaleLost (.returned 0) .notFresh) table (.returned 0)
    ∧ scaleWaits (belt pouring .newlyLost .notFresh) table .newlyLost
    ∧ scaleWaits (belt calibrating .newlyLost .notFresh) table .newlyLost
    ∧ calibrating.weigher.zeroCal.running = true :=
  ⟨⟨⟨rfl, rfl, rfl, rfl, .inl rfl⟩, rfl⟩, ⟨rfl, rfl, rfl, rfl, .inl rfl⟩, ⟨rfl, rfl, rfl, rfl, .inl rfl⟩,
    ⟨rfl, rfl, rfl, rfl, .inl rfl⟩, ⟨rfl, rfl, rfl, rfl, .inl rfl⟩, rfl⟩

/-- The pouring line with a belt at this load and this many pulses waiting. -/
def running (load : Nat) (v : Half) : State :=
  belt { pouring with weigher := { pouring.weigher with corrected := load, heldRaw := load } } .notFresh (.fresh v)

/-- The belt at its greatest plausible number of pulses. -/
theorem weighs_running : (running 4000 1000).Weighs table 1000 := ⟨rfl, rfl, .inl rfl, rfl, rfl, by decide, rfl⟩

/-- A calibration running on a belt at this load, with the travel sum as given. -/
def zeroing (sum load : Nat) : State :=
  belt { calibrating with weigher := { calibrating.weigher with
    zeroCal := ⟨true, sum * load, sum, .none, none⟩, heldRaw := load, corrected := load } } .notFresh (.fresh 1000)

theorem witness_TravelFormsMass :
    (running 4000 1000).Weighs table 1000 ∧ (running 4000 1000).weigher.zeroCal.running = false
    ∧ (zeroing 874999 5).Weighs table 1000 ∧ (zeroing 874999 5).weigher.zeroCal.running = true
    ∧ (zeroing 874999 5).weigher.zeroCal.travelSum + (zeroing 874999 5).travelOf table 1000
      < table.beltLength * 100 := by
  refine ⟨weighs_running, rfl, ⟨rfl, rfl, .inl rfl, rfl, rfl, by decide, rfl⟩, rfl, by decide⟩

/-- What the clause of a period with two samples asks: this scale state waits beside a thousand plausible pulses. -/
def bothWait (s : State) (h : Handed) : Prop :=
  s.pins.porst = false ∧ s.weigher.table = some table ∧ s.weighAgrees ∧ s.weigher.tracker = .tracking
    ∧ (s.waitingFor .scaleLoad).head? = some h ∧ (s.waitingFor .beltPulses).head? = some (.fresh 1000)
    ∧ pulseDiff 1000 s.weigher.pulseRef ≤ min 65535 (table.maxDelta * min 65535 (s.weigher.gap + 1))

/-- Both bindings fresh, the scale saturated, returned, newly LOST, and LOST already; and with a calibration running. -/
theorem witness_TravelFormsMass_both :
    (bothWait (belt pouring (.fresh 20000) (.fresh 1000)) (.fresh 20000)
      ∧ bothWait (belt pouring (.fresh (-2001)) (.fresh 1000)) (.fresh (-2001)))
    ∧ (bothWait (belt scaleLost (.returned 0) (.fresh 1000)) (.returned 0)
      ∧ bothWait (belt scaleLost .lost (.fresh 1000)) .lost)
    ∧ (bothWait (belt pouring .newlyLost (.fresh 1000)) .newlyLost ∧ pouring.weigher.zeroCal.running = false)
    ∧ (bothWait (belt calibrating .newlyLost (.fresh 1000)) .newlyLost
      ∧ bothWait (belt calibrating (.fresh 5) (.fresh 1000)) (.fresh 5)
      ∧ calibrating.weigher.zeroCal.running = true) := by
  refine ⟨⟨?_, ?_⟩, ⟨?_, ?_⟩, ⟨?_, rfl⟩, ?_, ?_, rfl⟩ <;> exact ⟨rfl, rfl, rfl, rfl, rfl, rfl, by decide⟩

/-- Chapter 1, R3: travel is weighed against the load of the same frame, not against the one held before. -/
theorem test_travel_is_weighed_by_the_load_of_its_frame :
    (after .weighingEvent (belt pouring (.fresh 0) (.fresh 1000))).weigher.corrected
      = (correctedLoad table 0).1
    ∧ (after .weighingEvent (belt pouring (.fresh 5230) (.fresh 1000))).bills.totalizer
      = pouring.bills.totalizer + BitVec.ofNat 32
        ((pouring.weigher.residue + (correctedLoad table 5230).1 * 125000) / 1000000) := by decide +kernel

/-- The same belt with this queue, and travel that is the catch-up travel or not. -/
def carried (load : Nat) (q : TransitQueue) (catchUp : Bool) : State :=
  { running load 1000 with
    queue := q, weigher := { (running load 1000).weigher with catchUp := catchUp } }

/-- A parcel of bill 2 opened at this odometer. -/
def parcel (mass : Nat) (opened : Count32) : Parcel := ⟨some 1, false, mass, opened⟩

/-- Ninety-five closed parcels, none of them due. -/
def crowd : List ClosedParcel := List.replicate 95 ⟨parcel 3 0, 0⟩

/-- A carry into no parcel, into one that stands, and, with the flag changing, into one that has covered nothing, a new
one, and the one of a full queue. -/
theorem witness_TravelFormsMass_carry :
    (∀ q catchUp, (carried 4000 q catchUp).Weighs table 1000
      ∧ (carried 4000 q catchUp).weigher.zeroCal.running = false
      ∧ (carried 4000 q catchUp).drainsOn table ((carried 4000 q catchUp).odometerAfter table 1000)
      ∧ 1000000 ≤ (carried 4000 q catchUp).weigher.residue
        + (carried 4000 q catchUp).weigher.corrected * (carried 4000 q catchUp).travelOf table 1000
      ∧ (carried 4000 q catchUp).odometerAfter table 1000 = 125000)
    ∧ 0 < table.transitDistance ∧ 0 < table.segmentLength
    ∧ noneDue table 125000 [] ∧ noneDue table 125000 crowd
    ∧ (carried 4000 ⟨[], none, false⟩ false).queue.openParcel = none
    ∧ ((carried 4000 ⟨[], some (parcel 7 0), true⟩ false).weigher.estimated = false
      ∧ (carried 4000 ⟨[], some (parcel 7 0), true⟩ true).weigher.catchUp = true)
    ∧ ((parcel 0 125000).mass = 0 ∧ (parcel 0 125000).openOdometer = 125000 ∧ (parcel 7 0).mass ≠ 0)
    ∧ (TransitQueue.count ⟨[], some (parcel 7 0), false⟩ < 96
      ∧ 96 ≤ TransitQueue.count ⟨crowd, some (parcel 7 0), false⟩)
    ∧ wrapDiff 125000 (parcel 7 0).openOdometer < table.segmentLength * 100
    ∧ (carried 4000 ⟨[], none, false⟩ false).bills.records.get 1 = .opened (lot 7 0 0) := by
  have carries : 1000000 ≤ (running 4000 1000).weigher.residue
      + (running 4000 1000).weigher.corrected * (running 4000 1000).travelOf table 1000 := by decide
  have moved : (running 4000 1000).odometerAfter table 1000 = 125000 := by decide
  refine ⟨fun q e => ⟨⟨rfl, rfl, .inl rfl, rfl, rfl, weighs_running.plausible, weighs_running.agrees⟩, rfl, nofun, carries,
    moved⟩, by decide, by decide, nofun, ?_, rfl, by decide, by decide, by decide, by decide, by decide⟩
  intro c h; cases h; decide

/-- A belt that runs with this queue at this load, in a drain that is one hundredth of a millimetre short of its end. -/
def drainingOn (load : Nat) (q : TransitQueue) : State :=
  { running load 1000 with queue := q, plan := ⟨[stepTo 200000 .active], .draining .target (125000#32 - 8999999#32), none⟩ }

/-- The same drain goes on through the advance, with a carry and without one. -/
theorem drainingOn_drainsOn (load : Nat) (q : TransitQueue) :
    (drainingOn load q).drainsOn table ((drainingOn load q).odometerAfter table 1000) := by
  intro c m h
  cases h
  exact (by decide : wrapDiff ((running 0 1000).odometerAfter table 1000) (125000#32 - 8999999#32)
    < (table.transitDistance + table.segmentLength) * 100)

/-- A carry in a drain, and one in a pour whose target it meets or does not meet, the gate closed or not. -/
theorem witness_TravelFormsMass_stops :
    (∀ q, (drainingOn 4000 q).Weighs table 1000 ∧ (drainingOn 4000 q).weigher.zeroCal.running = false
      ∧ (drainingOn 4000 q).drainsOn table ((drainingOn 4000 q).odometerAfter table 1000))
    ∧ (∀ k, ({ carried 4000 ⟨[], none, false⟩ false with
        plan := ⟨[{ stepTo 200000 .active with credited := k }], .pouring, none⟩ } : State).Weighs table 1000)
    ∧ (let t := fun k => after .weighingEvent ({ carried 4000 ⟨[], none, false⟩ false with
        plan := ⟨[{ stepTo 200000 .active with credited := k }], .pouring, none⟩ } : State)
      (t 193500).anticipationMet = true ∧ (t 193499).anticipationMet = false)
    ∧ (pouring.gateShowsClosed = false
      ∧ ({ pouring with gate := { pouring.gate with position := some 10 } } : State).gateShowsClosed = true) := by
  refine ⟨fun q => ⟨⟨rfl, rfl, .inl rfl, rfl, rfl, weighs_running.plausible, weighs_running.agrees⟩, rfl,
    drainingOn_drainsOn 4000 q⟩,
    fun k => ⟨rfl, rfl, .inl rfl, rfl, rfl, weighs_running.plausible, weighs_running.agrees⟩, ?_, by decide⟩
  decide +kernel

/-- Chapter 2, R28: measured mass and the catch-up travel's estimated mass stand in separate parcels. -/
theorem test_catch_up_mass_takes_a_new_parcel :
    let t := after .weighingEvent (carried 4000 ⟨[], some (parcel 7 0), false⟩ true)
    t.queue.closed = [⟨parcel 7 0, 125000⟩] ∧ t.queue.openParcel = some ⟨some 1, true, 500, 125000⟩
    ∧ (t.bills.records.get 1).inTransit = 500 := by decide +kernel

/-- A weigher whose tracker stands so, with a pulse sample waiting that is one beyond the accepted limit. -/
def jumped (tracker : TrackerState) (implausible : Nat) : State :=
  belt { setUp with
    weigher := { setUp.weigher with tracker := tracker, implausible := implausible }
    gate := { setUp.gate with
      stopSet := if tracker = .lost then setUp.gate.stopSet.add .weigh else setUp.gate.stopSet } }
    .notFresh (.fresh 1001)

theorem witness_ImplausiblePulsesAreLostAndRearmed :
    ((jumped .tracking 2).pins.porst = false ∧ (jumped .tracking 2).weigher.table = some table
      ∧ (jumped .tracking 2).weighAgrees ∧ (jumped .tracking 2).noScale
      ∧ ((jumped .tracking 2).waitingFor .beltPulses).head? = some (.fresh 1001)
      ∧ Handed.value (.fresh 1001) = some 1001 ∧ (jumped .tracking 2).weigher.tracker = .tracking
      ∧ min 65535 (table.maxDelta * min 65535 ((jumped .tracking 2).weigher.gap + 1))
        < pulseDiff 1001 (jumped .tracking 2).weigher.pulseRef
      ∧ (jumped .tracking 2).weigher.implausible = 2)
    ∧ ((jumped .tracking 1).weighAgrees ∧ (jumped .tracking 1).weigher.implausible < 2
      ∧ (jumped .tracking 0).weigher.implausible < 2)
    ∧ ((jumped .lost 0).weighAgrees ∧ (jumped .lost 0).weigher.tracker = .lost
      ∧ ((jumped .lost 0).waitingFor .beltPulses).head? = some (.fresh 1001)
      ∧ (jumped .lost 0).plan.state ≠ .interrupted ∧ (jumped .lost 0).queue.count < 96)
    ∧ ((jumped .unarmed 0).weighAgrees ∧ (jumped .unarmed 0).noScale ∧ (jumped .unarmed 0).weigher.tracker = .unarmed
      ∧ (jumped .unarmed 0).weigher.table = some table
      ∧ ((jumped .unarmed 0).waitingFor .beltPulses).head? = some (.fresh 1001)) := by
  refine ⟨⟨rfl, rfl, rfl, .inl rfl, rfl, rfl, rfl, by decide, rfl⟩, ⟨rfl, by decide⟩,
    ⟨rfl, rfl, rfl, by decide, by decide⟩, rfl, .inl rfl, rfl, rfl, rfl⟩

/-- The loss by the binding, with a calibration and without; and a weigher without its table. -/
theorem witness_ImplausiblePulsesAreLostAndRearmed_binding :
    (∀ s ∈ [pouring, calibrating], (belt s .notFresh .newlyLost).pins.porst = false
      ∧ (belt s .notFresh .newlyLost).weighAgrees ∧ (belt s .notFresh .newlyLost).noScale
      ∧ ((belt s .notFresh .newlyLost).waitingFor .beltPulses).head? = some .newlyLost)
    ∧ (∀ a b, (belt State.reset a b).pins.porst = false ∧ (belt State.reset a b).weigher.table = none
      ∧ ((belt State.reset a b).waitingFor .scaleLoad).head? = some a
      ∧ ((belt State.reset a b).waitingFor .beltPulses).head? = some b) := by
  refine ⟨fun s h => ?_, fun a b => ⟨rfl, rfl, rfl, rfl⟩⟩
  cases h with
  | head => exact ⟨rfl, rfl, .inl rfl, rfl⟩
  | tail _ h => cases h with
    | head => exact ⟨rfl, rfl, .inl rfl, rfl⟩
    | tail _ h => cases h

/-- R1: without the table a sample is not used, but a returned BELT_PULSES leaves the tracker UNARMED, and the gap
grows. -/
theorem test_unloaded_weigher_takes_losses_alone :
    let t := after .weighingEvent (belt State.reset (.fresh 500) (.returned 9))
    (t.weigher.tracker, t.weigher.heldRaw, t.weigher.gap) = (.unarmed, 0, 1) := by decide +kernel

theorem witness_ZeroCalibrationCompletes :
    ((zeroing 875000 20).Weighs table 1000 ∧ (zeroing 875000 20).weigher.zeroCal.running = true
      ∧ table.beltLength * 100
        ≤ (zeroing 875000 20).weigher.zeroCal.travelSum + (zeroing 875000 20).travelOf table 1000)
    ∧ ((zeroing 875000 21).Weighs table 1000 ∧ table.beltLength * 100
        ≤ (zeroing 875000 21).weigher.zeroCal.travelSum + (zeroing 875000 21).travelOf table 1000) :=
  ⟨⟨⟨rfl, rfl, .inl rfl, rfl, rfl, by decide, rfl⟩, rfl, by decide⟩, ⟨rfl, rfl, .inl rfl, rfl, rfl, by decide, rfl⟩, by decide⟩

/-- Both outcomes: a proposed zero at the zero limit replaces the zero, one beyond it does not. -/
theorem test_zero_limit_is_inclusive :
    (after .zeroComplete (zeroing 875000 20)).weigher.table = some { table with zero := 20 }
    ∧ (after .zeroComplete (zeroing 875000 21)).weigher.table = some table := by decide +kernel

/-! ### Witnesses: the transit queue -/

/-- The belt runs empty over 125,000 of travel, from the odometer 0, with this queue. -/
def carrying (q : TransitQueue) : State := { running 0 1000 with queue := q }

/-- An open parcel opened this far back from the odometer after the advance. -/
def openedBack (travel : Nat) : Parcel := ⟨some 1, false, 7, 125000#32 - BitVec.ofNat 32 travel⟩

/-- A closed parcel closed this far back from the odometer after the advance. -/
def closedBack (mass travel : Nat) : ClosedParcel :=
  ⟨⟨some 1, false, mass, 125000#32 - BitVec.ofNat 32 (travel + 1000)⟩, 125000#32 - BitVec.ofNat 32 travel⟩

/-- A full queue with a close deferred, whose oldest parcel is empty and just due, the next one not quite. -/
def fullQueue : TransitQueue :=
  ⟨closedBack 0 6000000 :: List.replicate 94 (closedBack 3 5999999), some (openedBack 2000000), true⟩

theorem witness_OpenParcelCloses :
    ((carrying ⟨[closedBack 3 5999999], some (openedBack 3000000), false⟩).BeltRuns table 1000
      ∧ (carrying ⟨[closedBack 3 5999999], some (openedBack 3000000), false⟩).drainsOn table ((carrying ⟨[closedBack 3 5999999], some (openedBack 3000000), false⟩).odometerAfter table 1000)
      ∧ noneDue table ((carrying ⟨[closedBack 3 5999999], some (openedBack 3000000), false⟩).odometerAfter table 1000)
        [closedBack 3 5999999]
      ∧ TransitQueue.count ⟨[closedBack 3 5999999], some (openedBack 3000000), false⟩ < 96
      ∧ table.segmentLength * 100
        ≤ wrapDiff ((carrying ⟨[], none, false⟩).odometerAfter table 1000) (openedBack 3000000).openOdometer)
    ∧ ((carrying fullQueue).BeltRuns table 1000 ∧ (carrying fullQueue).drainsOn table ((carrying fullQueue).odometerAfter table 1000)
      ∧ (carrying fullQueue).queue.openParcel = some (openedBack 2000000) ∧ fullQueue.count ≤ 96
      ∧ (closedBack 0 6000000).parcel.mass = 0 ∧ 0 < table.segmentLength
      ∧ table.transitDistance * 100
        ≤ wrapDiff ((carrying fullQueue).odometerAfter table 1000) (closedBack 0 6000000).closeOdometer
      ∧ noneDue table ((carrying fullQueue).odometerAfter table 1000)
        (List.replicate 94 (closedBack 3 5999999))) := by
  refine ⟨⟨⟨⟨rfl, rfl, .inl rfl, rfl, rfl, by decide, rfl⟩, by decide, by decide, by decide, rfl⟩, nofun, ?_,
    by decide, by decide⟩, ⟨⟨rfl, rfl, .inl rfl, rfl, rfl, by decide, rfl⟩, by decide, by decide, by decide, rfl⟩, nofun,
    rfl, by decide, rfl, by decide, by decide, ?_⟩
  · intro c h; cases h; decide
  · intro c h; cases h; decide

/-- The closes and the discharge in a drain that goes on. -/
theorem witness_OpenParcelCloses_draining :
    (∀ q, (drainingOn 0 q).BeltRuns table 1000
      ∧ (drainingOn 0 q).drainsOn table ((drainingOn 0 q).odometerAfter table 1000)
      ∧ (drainingOn 0 q).odometerAfter table 1000 = 125000 ∧ (drainingOn 0 q).queue = q)
    ∧ noneDue table 125000 [closedBack 3 5999999]
    ∧ table.segmentLength * 100 ≤ wrapDiff 125000 (openedBack 3000000).openOdometer
    ∧ table.transitDistance * 100 ≤ wrapDiff 125000 (closedBack 1840 6000000).closeOdometer := by
  have empty : (running 0 1000).BeltRuns table 1000 :=
    ⟨⟨rfl, rfl, .inl rfl, rfl, rfl, by decide, rfl⟩, by decide, by decide, by decide, rfl⟩
  have moved : (running 0 1000).odometerAfter table 1000 = 125000 := by decide
  refine ⟨fun q => ⟨⟨⟨rfl, rfl, .inl rfl, rfl, rfl, empty.plausible, empty.agrees⟩, empty.moves,
    empty.carriesNothing, empty.sameFlag, rfl⟩, drainingOn_drainsOn 0 q, moved, rfl⟩, ?_, by decide, by decide⟩
  intro c h; cases h; decide

/-- The deferral in a full queue, a change of the estimated flag, and SKIP_STEP outside LOADING. -/
theorem witness_OpenParcelCloses_deferred :
    ((carrying ⟨crowd, some (openedBack 3000000), false⟩).BeltRuns table 1000
      ∧ (carrying ⟨crowd, some (openedBack 3000000), false⟩).drainsOn table ((carrying ⟨crowd, some (openedBack 3000000), false⟩).odometerAfter table 1000)
      ∧ noneDue table ((carrying ⟨crowd, none, false⟩).odometerAfter table 1000) crowd
      ∧ 96 ≤ TransitQueue.count ⟨crowd, some (openedBack 3000000), false⟩
      ∧ table.segmentLength * 100
        ≤ wrapDiff ((carrying ⟨crowd, none, false⟩).odometerAfter table 1000) (openedBack 3000000).openOdometer)
    ∧ (∀ q, (carried 0 q true).Weighs table 1000
      ∧ (carried 0 q true).weigher.residue
        + (carried 0 q true).weigher.corrected * (carried 0 q true).travelOf table 1000 < 1000000
      ∧ (carried 0 q true).weigher.zeroCal.running = false ∧ (carried 0 q true).drainsOn table ((carried 0 q true).odometerAfter table 1000)
      ∧ true = ((carried 0 q true).weigher.scaleLost || (carried 0 q true).weigher.catchUp)
      ∧ true ≠ (carried 0 q true).weigher.estimated)
    ∧ (∀ q, ({ inMode (planIn pouring .waitProceed) .suspended with queue := q } : State).hears 1 [0])
    ∧ ((inMode (planIn pouring .waitProceed) .suspended).modes.mode ≠ .loading
      ∧ (inMode (planIn pouring .waitProceed) .suspended).plan.steps[(0 : Byte).toNat]? = some (stepTo 200000 .active)
      ∧ (inMode (planIn pouring .waitProceed) .suspended).plan.state = .waitProceed
      ∧ (inMode (planIn pouring .waitProceed) .suspended).weigher.tag ≠ none
      ∧ (inMode (planIn pouring .waitProceed) .suspended).weigher.odometer = 0) := by
  have empty : (running 0 1000).Weighs table 1000 := ⟨rfl, rfl, .inl rfl, rfl, rfl, by decide, rfl⟩
  have little : (running 0 1000).weigher.residue
      + (running 0 1000).weigher.corrected * (running 0 1000).travelOf table 1000 < 1000000 := by decide
  have clear : true ≠ (running 0 1000).weigher.estimated := by decide
  refine ⟨⟨⟨⟨rfl, rfl, .inl rfl, rfl, rfl, by decide, rfl⟩, by decide, by decide, by decide, rfl⟩, nofun, ?_,
    by decide, by decide⟩,
    fun q => ⟨⟨rfl, rfl, .inl rfl, rfl, rfl, empty.plausible, empty.agrees⟩, little, rfl, nofun, rfl, clear⟩,
    fun q => ⟨rfl, rfl, rfl⟩, by decide, rfl, rfl, by decide, rfl⟩
  intro c h; cases h; decide

/-- R29: the second call for a close in a full queue raises no further QUEUE_FULL. -/
theorem test_queue_full_is_raised_once :
    (after .segmentClose (carrying ⟨crowd, some (openedBack 3000000), false⟩)).notices.map (·.event)
      = [.weigh .queueFull]
    ∧ (after .segmentClose (carrying ⟨crowd, some (openedBack 3000000), true⟩)).notices = []
    ∧ (after .segmentClose (carrying ⟨crowd, some (openedBack 3000000), true⟩)).queue.closeDeferred = true := by
  decide +kernel

/-- One parcel of 1,840 kg due for discharge. -/
def oneDue : State := carrying ⟨[closedBack 1840 6000000], none, false⟩

theorem witness_DischargedParcelIsCredited :
    (oneDue.BeltRuns table 1000 ∧ oneDue.drainsOn table (oneDue.odometerAfter table 1000)
      ∧ oneDue.queue.closed = closedBack 1840 6000000 :: [] ∧ 0 < (closedBack 1840 6000000).parcel.mass
      ∧ table.transitDistance * 100
        ≤ wrapDiff (oneDue.odometerAfter table 1000) (closedBack 1840 6000000).closeOdometer
      ∧ noneDue table (oneDue.odometerAfter table 1000) [])
    ∧ (oneDue.destination = some 3 ∧ oneDue.holds.holds.get 3 = some filled
      ∧ oneDue.bills.records.get 1 = .opened (lot 7 0 0) ∧ oneDue.plan.active = some (stepTo 200000 .active)) := by
  refine ⟨⟨⟨⟨rfl, rfl, .inl rfl, rfl, rfl, by decide, rfl⟩, by decide, by decide, by decide, rfl⟩, nofun, rfl, by decide,
    by decide, nofun⟩, rfl, ?_, rfl, rfl⟩
  decide

/-- Chapter 2, "a segment close and two discharges": 1,840 kg at 780 kg/m³ are 2,359 litres, rounded up. -/
theorem test_discharge_example :
    ((after .parcelDischarge oneDue).holds.holds.get 3).map (fun r => (r.credited, r.volume))
      = some (1840, 1312759) := by decide +kernel

/-- The same with another vessel record and this much credited to the step. -/
def dueWith (v : VesselRecord) (k : Nat) : State :=
  { oneDue with holds := { oneDue.holds with vessel := some v },
                plan := ⟨[{ stepTo 200000 .active with credited := k }], .pouring, none⟩ }

/-- The plan's tests on a credit: the target within the allowance, the trim limits and the cargo limit. -/
theorem witness_DischargedParcelIsCredited_limits :
    ((after .parcelDischarge (dueWith vessel 192160)).anticipationMet = true
      ∧ (after .parcelDischarge (dueWith vessel 192160)).gate.stopSet.has .spout = false)
    ∧ ((after .parcelDischarge (dueWith vessel 192159)).anticipationMet = false
      ∧ (dueWith vessel 192159).plan.state = .pouring)
    ∧ (∃ m, (after .parcelDischarge (dueWith { vessel with forwardLimit := 0 } 0)).holds.moment = some m ∧ 0 < m)
    ∧ (∃ m k, (after .parcelDischarge (dueWith { vessel with cargoLimit := 1840 } 0)).holds.moment = some m
      ∧ (after .parcelDischarge (dueWith { vessel with cargoLimit := 1840 } 0)).holds.cargo = some k
      ∧ vessel.aftLimit ≤ m ∧ m ≤ vessel.forwardLimit ∧ 1840 ≤ k)
    ∧ (planIn (dueWith vessel 0) .interrupted).gate.stopSet.has .spout = false :=
  ⟨by decide +kernel, by decide +kernel, ⟨18400, by decide +kernel⟩, ⟨18400, 1840, by decide +kernel⟩, by decide⟩

/-! ### Witnesses: the holds, the vessel and the axes -/

/-- LOAD_VESSEL's parameters for a record. -/
def vesselParams (v : VesselRecord) : List Byte := encodeFields (vesselReport v)

theorem witness_LoadVesselReplacesTheRecord :
    setUp.hears 47 (vesselParams vessel) ∧ pouring.hears 47 (vesselParams vessel) ∧ pouring.modes.mode ≠ .setup
    ∧ setUp.modes.mode = .setup ∧ (readVessel (vesselParams vessel)).inRange = true
    ∧ (readVessel (vesselParams { vessel with aftPosition := 2000 })).inRange = false
    ∧ setUp.holds.holds.get 3 = some filled ∧ setUp.holds.holds.get 0 = none :=
  ⟨⟨rfl, rfl, rfl⟩, ⟨rfl, rfl, rfl⟩, by decide, rfl, by decide, by decide, by decide, by decide⟩

/-- LOAD_HOLD's parameters: the number and mark, and the static fields. -/
def holdParams (number mark : Nat) (st : HoldStatic) : List Byte :=
  BitVec.ofNat 8 (16 * number + mark) :: (encodeFields (holdReport { filled with static := st })).tail.take 26

/-- A hold beside hold 4, one centimetre away. -/
def beside : HoldStatic := { hatch with travelMin := 6901, travelMax := 8000 }

/-- A step that waits on hold 4. -/
def planned : State := { setUp with plan := ⟨[stepTo 5000 .pending], .idle, none⟩ }

theorem witness_LoadHoldMakesAHold :
    (pouring.hears 27 (holdParams 5 1 beside) ∧ pouring.modes.mode ≠ .setup)
    ∧ (setUp.hears 27 (holdParams 0 1 beside) ∧ setUp.modes.mode = .setup
      ∧ ((holdParams 0 1 beside).headD 0).toNat / 16 = 0 ∧ 9 < ((holdParams 10 1 beside).headD 0).toNat / 16
      ∧ 1 < ((holdParams 9 2 beside).headD 0).toNat % 16)
    ∧ (State.reset.hears 27 (holdParams 9 1 beside) ∧ State.reset.holds.vessel = none
      ∧ ((holdParams 9 1 beside).headD 0).toNat / 16 = (8 : HoldNo).val + 1
      ∧ ((holdParams 9 1 beside).headD 0).toNat % 16 = 1)
    ∧ (setUp.hears 27 (holdParams 5 1 beside) ∧ setUp.holds.vessel = some vessel
      ∧ (readHoldStatic (holdParams 5 1 beside)).inRange = true
      ∧ (∀ g r, g ≠ 4 → setUp.holds.holds.get g = some r →
        (readHoldStatic (holdParams 5 1 beside)).overlaps r.static = false)
      ∧ (readHoldStatic (holdParams 5 1 { beside with travelMin := 6900 })).overlaps hatch = true
      ∧ (readHoldStatic (holdParams 5 1 { beside with area := 0 })).inRange = false)
    ∧ (planned.hears 27 (holdParams 4 0 beside) ∧ ((holdParams 4 0 beside).headD 0).toNat % 16 = 0
      ∧ (∃ st ∈ planned.plan.steps, st.state = .pending ∧ st.hold = 3))
    ∧ (setUp.hears 27 (holdParams 4 0 beside)
      ∧ ∀ st ∈ setUp.plan.steps, st.state = .pending → st.hold ≠ 3) := by
  refine ⟨⟨⟨rfl, rfl, rfl⟩, by decide⟩, ⟨⟨rfl, rfl, rfl⟩, rfl, by decide, by decide, by decide⟩,
    ⟨⟨rfl, rfl, rfl⟩, rfl, by decide, by decide⟩, ⟨⟨rfl, rfl, rfl⟩, rfl, by decide, ?_, by decide, by decide⟩,
    ⟨⟨rfl, rfl, rfl⟩, by decide, by decide⟩, ⟨rfl, rfl, rfl⟩, by decide⟩
  intro g r hg hr
  have : ∀ g : HoldNo, (setUp.holds.holds.get g).all
      (fun r => !(readHoldStatic (holdParams 5 1 beside)).overlaps r.static) = true := by decide
  simpa [hr] using this g

/-- LOAD_AXIS's parameters: the axis and its entry. -/
def axisParams (number : Nat) (e : AxisEntry) : List Byte :=
  BitVec.ofNat 8 (16 * number) :: encodeFields (axisEntryReport e)

/-- An entry of the DROP axis. -/
def dropEntry : AxisEntry := ⟨-15000, 5000, 600, 300, 8, 1000⟩

theorem witness_LoadAxisReplacesTheEntry :
    (pouring.hears 12 (axisParams 2 dropEntry) ∧ pouring.modes.mode ≠ .setup)
    ∧ (setUp.hears 12 (axisParams 3 dropEntry) ∧ setUp.modes.mode = .setup
      ∧ 2 < ((axisParams 3 dropEntry).headD 0).toNat / 16)
    ∧ (setUp.hears 12 (axisParams 2 dropEntry)
      ∧ axisOfNumber (((axisParams 2 dropEntry).headD 0).toNat / 16) = some .drop
      ∧ axisOfNumber (((axisParams 0 dropEntry).headD 0).toNat / 16) = some .travel
      ∧ (readAxisEntry .drop (axisParams 2 dropEntry)).inRange .drop = true
      ∧ (readAxisEntry .drop (axisParams 2 { dropEntry with upper := -15000 })).inRange .drop = false) :=
  ⟨⟨⟨rfl, rfl, rfl⟩, by decide⟩, ⟨⟨rfl, rfl, rfl⟩, rfl, by decide⟩, ⟨rfl, rfl, rfl⟩, by decide, by decide, by decide,
    by decide⟩

theorem witness_DeckSampleLevelsTheDeck :
    (pouring.pins.porst = false
      ∧ ((given pouring .deckFore (.fresh (-1700))).waitingFor (deckBinding .fore)).head? = some (.fresh (-1700))
      ∧ Handed.value (.fresh (-1700)) = some (-1700)
      ∧ (given pouring .deckFore (.fresh (-1700))).holds.vessel = some vessel
      ∧ (given pouring .deckFore (.fresh (-1700))).holds.holds.get 3 = some filled)
    ∧ ((given State.reset .deckAft (.returned 32767)).waitingFor (deckBinding .aft)).head? = some (.returned 32767)
    ∧ ((given pouring .deckAft .newlyLost).waitingFor (deckBinding .aft)).head? = some .newlyLost
    ∧ ((given pouring .deckAft .notFresh).waitingFor (deckBinding .aft)).head? = some .notFresh
    ∧ ((given pouring .deckFore .lost).waitingFor (deckBinding .fore)).head? = some .lost := by
  refine ⟨⟨rfl, rfl, rfl, rfl, ?_⟩, rfl, rfl, rfl, rfl⟩
  decide

/-! ### Witnesses: the pour plan -/

/-- The parameters of a step: hold, bill, target and break flag. -/
def stepParams (hold bill target flag : Nat) : List Byte :=
  encodeFields [.small hold, .small bill, .num 4 target, .small flag]

/-- Loading with no step to do. -/
def idleLoading : State :=
  { pouring with plan := ⟨[stepTo 5000 .done], .idle, some 0⟩,
                 gate := { pouring.gate with stopSet := pouring.gate.stopSet.add .plan } }

/-- What the service unit reads of a step's parameters. -/
def stepRead (s : State) (p : List Byte) : Option Step :=
  s.readStep (paramNat (readParams [.small, .small, .unsigned 4, .small] p) 0)
    (paramNat (readParams [.small, .small, .unsigned 4, .small] p) 1)
    (paramNat (readParams [.small, .small, .unsigned 4, .small] p) 2)
    (paramNat (readParams [.small, .small, .unsigned 4, .small] p) 3)

theorem witness_StepsJoinTheList :
    (setUp.hears 6 (stepParams 4 2 1 0) ∧ setUp.modes.mode ≠ .loading
      ∧ stepRead setUp (stepParams 4 2 3000000 1) = some { stepTo 3000000 .pending with breakFlag := true }
      ∧ stepRead setUp (stepParams 4 2 3000001 0) = none ∧ stepRead setUp (stepParams 4 2 0 0) = none
      ∧ stepRead setUp (stepParams 5 2 1 0) = none ∧ stepRead setUp (stepParams 4 3 1 0) = none)
    ∧ (pouring.hears 7 (1 :: stepParams 4 2 1 0) ∧ pouring.plan.state ≠ .idle
      ∧ (1 : Byte).toNat ≤ pouring.plan.steps.length
      ∧ (∀ x ∈ pouring.plan.steps.drop 1, x.state = .pending)
      ∧ ∃ x ∈ pouring.plan.steps.drop 0, x.state ≠ .pending)
    ∧ 32 ≤ ({ setUp with plan := ⟨List.replicate 32 (stepTo 1 .pending), .idle, none⟩ } : State).plan.steps.length :=
  ⟨⟨⟨rfl, rfl, rfl⟩, by decide, by decide, by decide, by decide, by decide, by decide⟩,
    ⟨⟨rfl, rfl, rfl⟩, by decide, by decide, by decide, by decide⟩, by decide⟩

/-- The refusals in LOADING on an IDLE plan: a target of 0, a full list, and a position before a DONE step or beyond the
end. -/
theorem witness_StepsJoinTheList_idle :
    (idleLoading.hears 6 (stepParams 4 2 0 0) ∧ stepRead idleLoading (stepParams 4 2 0 0) = none
      ∧ stepRead idleLoading (stepParams 4 2 1 0) = some (stepTo 1 .pending))
    ∧ (({ idleLoading with plan := ⟨List.replicate 32 (stepTo 1 .done), .idle, none⟩ } : State).hears 6 (stepParams 4 2 1 0)
      ∧ 32 ≤ (List.replicate 32 (stepTo 1 .done)).length)
    ∧ ((idleLoading.hears 7 (0 :: stepParams 4 2 1 0) ∧ ∃ x ∈ idleLoading.plan.steps.drop (0 : Byte).toNat, x.state ≠ .pending)
      ∧ idleLoading.hears 7 (2 :: stepParams 4 2 1 0) ∧ idleLoading.plan.steps.length < (2 : Byte).toNat)
    ∧ idleLoading.modes.mode = .loading ∧ idleLoading.plan.state = .idle :=
  ⟨⟨⟨rfl, rfl, rfl⟩, by decide, by decide⟩, ⟨⟨rfl, rfl, rfl⟩, by decide⟩,
    ⟨⟨⟨rfl, rfl, rfl⟩, by decide⟩, ⟨rfl, rfl, rfl⟩, by decide⟩, rfl, rfl⟩

theorem witness_AppendedStepIsActivated :
    (idleLoading.hears 6 (stepParams 4 2 3000000 0)
      ∧ stepRead idleLoading (stepParams 4 2 3000000 0) = some (stepTo 3000000 .pending)
      ∧ idleLoading.plan.steps.length < 32 ∧ idleLoading.modes.mode = .loading ∧ idleLoading.plan.state = .idle
      ∧ (∀ x ∈ idleLoading.plan.steps, x.ended = true))
    ∧ (idleLoading.activationCheck (stepTo 3000000 .pending) = none
      ∧ ∃ base aft, ({ idleLoading with holds := { idleLoading.holds with
        vessel := some { vessel with aftLimit := aft, forwardLimit := base } } } : State).activationCheck
          (stepTo 3000000 .pending) = some .trim) := by
  refine ⟨⟨⟨rfl, rfl, rfl⟩, by decide, by decide, rfl, rfl, by decide⟩, by decide, 0, -1, by decide⟩

theorem witness_AppendedStepIsActivated_insert :
    idleLoading.hears 7 (1 :: stepParams 4 2 3000000 0) ∧ (1 : Byte).toNat = idleLoading.plan.steps.length :=
  ⟨⟨rfl, rfl, rfl⟩, rfl⟩

/-- A list with steps in every state but ACTIVE or SKIPPED. -/
def mixedList (active : List Step) : State :=
  { setUp with plan := ⟨stepTo 1 .done :: (active ++ [stepTo 2 .pending, stepTo 3 .pending, stepTo 4 .pending]),
                        if active = [] then .idle else .waitProceed, some 0⟩ }

theorem witness_ListEditsChangeTheListAlone :
    ((mixedList []).hears 1 [2] ∧ (mixedList []).plan.steps[(2 : Byte).toNat]? = some (stepTo 3 .pending)
      ∧ (mixedList []).plan.steps[(4 : Byte).toNat]? = none
      ∧ (mixedList []).plan.steps[(0 : Byte).toNat]? = some (stepTo 1 .done) ∧ (stepTo 1 .done).ended = true)
    ∧ ((mixedList [stepTo 9 .active]).hears 1 [3]
      ∧ (mixedList [stepTo 9 .active]).plan.steps
        = [stepTo 1 .done] ++ [stepTo 9 .active] ++ [stepTo 2 .pending] ++ stepTo 3 .pending :: [stepTo 4 .pending]
      ∧ (3 : Byte).toNat = ([stepTo 1 .done] ++ [stepTo 9 .active] ++ [stepTo 2 .pending]).length)
    ∧ ((mixedList []).hears 0 []
      ∧ (mixedList []).plan.steps = [stepTo 1 .done] ++ [stepTo 2 .pending, stepTo 3 .pending, stepTo 4 .pending]
      ∧ (stepTo 2 .pending).ended = false) :=
  ⟨⟨⟨rfl, rfl, rfl⟩, rfl, rfl, rfl, rfl⟩, ⟨⟨rfl, rfl, rfl⟩, rfl, rfl⟩, ⟨rfl, rfl, rfl⟩, rfl, rfl⟩

/-- The target's characters. -/
def targetChars (target : Nat) : List Byte := encodeFields [.num 4 target]

/-- A line as it pours, with this much credited. -/
def credited (k : Nat) : State :=
  { pouring with plan := ⟨[{ stepTo 200000 .active with credited := k }], .pouring, none⟩ }

theorem witness_SetTargetReplacesTheTarget :
    (pouring.hears 5 (0 :: targetChars 3000000) ∧ pouring.plan.steps[(0 : Byte).toNat]? = some (stepTo 200000 .active)
      ∧ pouring.plan.steps[(1 : Byte).toNat]? = none ∧ pouring.holds.vessel = some vessel
      ∧ natOfChars (targetChars 0) = 0 ∧ vessel.cargoLimit < natOfChars (targetChars 3000001)
      ∧ 1 ≤ natOfChars (targetChars 1) ∧ natOfChars (targetChars 3000000) ≤ vessel.cargoLimit)
    ∧ ((mixedList []).plan.steps[(0 : Byte).toNat]? = some (stepTo 1 .done)
      ∧ (mixedList []).plan.steps[(1 : Byte).toNat]? = some (stepTo 2 .pending))
    ∧ (pouring.activationCheck { stepTo 200000 .active with target := 3000000 } = none
      ∧ ({ pouring with holds := { pouring.holds with
        vessel := some { vessel with forwardLimit := 0, baseMoment := 0 } } } : State).activationCheck
          { stepTo 200000 .active with target := 3000000 } ≠ none)
    ∧ ((planIn pouring (.blocked .trim)).plan.state = .blocked .trim
      ∧ (planIn pouring .waitProceed).plan.state ≠ .pouring
      ∧ (credited 194000).plan.activePosition = some (0 : Byte).toNat
      ∧ 200000 ≤ 194000 + ((credited 194000).bills.records.get 1).inTransit + vessel.allowance
      ∧ ¬ 200001 ≤ 194000 + ((credited 194000).bills.records.get 1).inTransit + vessel.allowance) :=
  ⟨⟨⟨rfl, rfl, rfl⟩, rfl, rfl, rfl, by decide, by decide, by decide, by decide⟩, ⟨rfl, rfl⟩,
    ⟨by decide, by decide⟩, rfl, by decide, by decide, by decide, by decide⟩

/-- A BLOCKED plan in LOADING over a ready spout, the step's flags as given. -/
def blockedAt (resume stop : Bool) : State :=
  { pouring with plan := ⟨[{ stepTo 200000 .active with resumeNeeded := resume, breakFlag := stop }], .blocked .cargo, none⟩ }

/-- A BLOCKED plan over a ready spout, in LOADING and outside it, and one whose spout is not ready. -/
theorem witness_SetTargetReplacesTheTarget_blocked :
    (∀ resume stop, (blockedAt resume stop).hears 5 (0 :: targetChars 3000000)
      ∧ (blockedAt resume stop).plan.activePosition = some (0 : Byte).toNat
      ∧ (blockedAt resume stop).plan.state = .blocked .cargo ∧ (blockedAt resume stop).modes.mode = .loading
      ∧ (blockedAt resume stop).spoutReady = true
      ∧ (blockedAt resume stop).activationCheck { stepTo 200000 .active with target := 3000000 } = none
      ∧ (inMode (blockedAt resume stop) .suspended).hears 5 (0 :: targetChars 3000000))
    ∧ ({ blockedAt false false with spout := State.reset.spout } : State).spoutReady = false := by
  refine ⟨fun r b => ⟨⟨rfl, rfl, rfl⟩, rfl, rfl, rfl, ?_, ?_, rfl, rfl, rfl⟩, by decide⟩
  · cases r <;> cases b <;> decide
  · cases r <;> cases b <;> decide

theorem witness_HoldAndSkipOfTheActiveStep :
    (pouring.hears 0 [] ∧ pouring.plan.state = .pouring ∧ (planIn pouring .interrupted).plan.state = .interrupted
      ∧ pouring.gateShowsClosed = false
      ∧ ({ pouring with gate := { pouring.gate with position := some 10 } } : State).gateShowsClosed = true
      ∧ (planIn pouring .waitSpout).plan.state = .waitSpout
      ∧ setUp.hears 0 [] ∧ setUp.plan.state ≠ .waitSpout)
    ∧ (pouring.hears 1 [0] ∧ pouring.plan.steps[(0 : Byte).toNat]? = some (stepTo 200000 .active)
      ∧ (inMode (planIn pouring .waitProceed) .suspended).hears 1 [0]
      ∧ (inMode (planIn pouring .waitProceed) .suspended).plan.state = .waitProceed
      ∧ (inMode (planIn pouring .waitProceed) .suspended).modes.mode ≠ .loading) :=
  ⟨⟨⟨rfl, rfl, rfl⟩, rfl, rfl, by decide, by decide, rfl, ⟨rfl, rfl, rfl⟩, by decide⟩, ⟨rfl, rfl, rfl⟩, rfl,
    ⟨rfl, rfl, rfl⟩, rfl, by decide⟩

/-- The pouring line in another plan state, with this behind its ACTIVE step. -/
def behind (p : PlanState) (rest : List Step) : State :=
  { pouring with plan := ⟨stepTo 1 .done :: stepTo 200000 .active :: rest, p, none⟩ }

theorem witness_HoldAndSkipOfTheActiveStep_loading :
    (∀ p rest, (behind p rest).hears 1 [1] ∧ (behind p rest).modes.mode = .loading ∧ (behind p rest).plan.state = p
      ∧ (behind p rest).plan.steps[(1 : Byte).toNat]? = some (stepTo 200000 .active))
    ∧ firstPendingAt (behind .waitSpout [stepTo 9 .pending, stepTo 8 .pending]).plan.steps 2 (stepTo 9 .pending)
    ∧ ∀ x ∈ (behind .waitProceed []).plan.steps, x.state ≠ .pending :=
  ⟨fun _ _ => ⟨⟨rfl, rfl, rfl⟩, rfl, rfl, rfl⟩, ⟨rfl, rfl, by decide⟩, by decide⟩

/-- R82 and R66: the step behind the skipped one is activated, and pours over a ready spout. -/
theorem test_skip_activates_the_next :
    let t := after (.skipStep [1]) (behind (.blocked .trim) [stepTo 9000 .pending])
    t.plan.steps.map (·.state) = [.done, .skipped, .active] ∧ t.plan.state = .pouring
    ∧ t.plan.lastEnded = some 1 ∧ t.weigher.tag = some 1 := by decide +kernel

/-- LOADING in WAIT_PROCEED with PLAN alone standing. -/
def waiting (st : Step) : State :=
  { pouring with plan := ⟨[st], .waitProceed, none⟩,
                 gate := { pouring.gate with stopSet := ReasonSet.empty.add .plan } }

/-- The same state with the spout elsewhere. -/
def astray (s : State) : State := { s with spout := { s.spout with position := .stray } }

theorem witness_ProceedPoursOrWaits :
    ((inMode (waiting (stepTo 200000 .active)) .suspended).hears 0 []
      ∧ (inMode (waiting (stepTo 200000 .active)) .suspended).modes.mode ≠ .loading)
    ∧ (pouring.hears 0 [] ∧ pouring.modes.mode = .loading ∧ pouring.plan.state ≠ .waitProceed)
    ∧ ((waiting (stepTo 200000 .active)).hears 0 [] ∧ (waiting (stepTo 200000 .active)).plan.state = .waitProceed
      ∧ (waiting (stepTo 200000 .active)).plan.active = some (stepTo 200000 .active)
      ∧ (waiting (stepTo 200000 .active)).spoutReady = true
      ∧ (waiting (stepTo 200000 .active)).weigher.tag = some (stepTo 200000 .active).bill
      ∧ (waiting (stepTo 200000 .active)).anticipationMet = false
      ∧ (waiting (stepTo 200000 .active)).limitCause = none
      ∧ (waiting (stepTo 200000 .active)).gate.stopSet.others.isEmpty = true)
    ∧ (astray (waiting (stepTo 200000 .active))).spoutReady = false :=
  ⟨⟨⟨rfl, rfl, rfl⟩, by decide⟩, ⟨⟨rfl, rfl, rfl⟩, rfl, by decide⟩,
    ⟨⟨rfl, rfl, rfl⟩, rfl, by decide, by decide, rfl, by decide, by decide, by decide⟩, by decide⟩

/-- R71 to R74, R76: PROCEED on a step that pours, whose target is met, with the gate open and shut, whose moment or
cargo is at its limit, and against which a dust reason stands, which counts for the bill. -/
theorem witness_ProceedPoursOrWaits_entries :
    let base := waiting (stepTo 200000 .active)
    let met := waiting { stepTo 200000 .active with credited := 200000 }
    let shut := { met with gate := { met.gate with position := some 10 } }
    let tight := fun (v : VesselRecord) => { base with holds := { base.holds with vessel := some v } }
    let dusted := { base with gate := { base.gate with stopSet := base.gate.stopSet.add (.dust 1) } }
    let entry := fun (s : State) =>
      let t := after (.proceed []) s
      (s.spoutReady, t.entryCause, t.plan.state)
    [entry base, entry met, entry shut, entry (tight { vessel with forwardLimit := -400000000 }),
        entry (tight { vessel with cargoLimit := 0 }), entry dusted]
      = [(true, none, .pouring), (true, some .target, .stopping .target),
        (true, some .target, .draining .target base.weigher.odometer), (true, some .trim, .stopping .trim),
        (true, some .cargo, .stopping .cargo), (true, none, .interrupted)]
    ∧ ((after (.proceed []) dusted).plan.active.map (·.kinds)) = some (ReasonSet.empty.add (.dust 1))
    ∧ (((after (.proceed []) dusted).bills.records.get 1).lot?.map (·.dustStops)) = some 1 := by decide +kernel

/-- A plan that stops with a cause, with this gate position waiting. -/
def stopping (c : StopCause) (g : Half) : State := given (planIn pouring (.stopping c)) .gatePos (.fresh g)

/-- A plan that drains with a cause from this far back, with the step as given and the belt about to run. -/
def draining (c : StopCause) (st : Step) (back : Nat) : State :=
  { running 0 1000 with plan := ⟨[st], .draining c (125000#32 - BitVec.ofNat 32 back), none⟩ }

theorem witness_DrainStartsAndCompletes :
    ((stopping .target 10).pins.porst = false ∧ (stopping .target 10).plan.state = .stopping .target
      ∧ ((stopping .target 10).waitingFor .gatePos).head? = some (.fresh 10)
      ∧ (stopping .target 10).weigher.table = some table ∧ min 1000 (10 : Half).toNat ≤ table.gateClosedLimit
      ∧ (stopping .target 10).gate.positionLost = false)
    ∧ (∀ c, (draining c (stepTo 200000 .active) 9000000).BeltRuns table 1000
      ∧ ∃ mark, (draining c (stepTo 200000 .active) 9000000).plan.state = .draining c mark
        ∧ (table.transitDistance + table.segmentLength) * 100
          ≤ wrapDiff ((draining c (stepTo 200000 .active) 9000000).odometerAfter table 1000) mark)
    ∧ ((draining .target (stepTo 200000 .active) 9000000).queue.closed = []
      ∧ (draining .target (stepTo 200000 .active) 9000000).plan.active = some (stepTo 200000 .active)
      ∧ (draining .target (stepTo 200000 .active) 9000000).holds.vessel = some vessel
      ∧ (vessel.tolerance : Int) < ((200000 : Nat) : Int) - (198499 : Nat)
      ∧ (stepTo 200000 .active).topUps < 3)
    ∧ ((inMode (draining .target { stepTo 200000 .active with credited := 198500 } 9000000) .suspended).plan.active
        = some { stepTo 200000 .active with credited := 198500 }
      ∧ ((200000 : Nat) : Int) - (198500 : Nat) ≤ vessel.tolerance
      ∧ (inMode (draining .target { stepTo 200000 .active with credited := 198500 } 9000000) .suspended).modes.mode
        ≠ .loading) := by
  refine ⟨⟨rfl, rfl, rfl, rfl, by decide, rfl⟩, ?_, ⟨rfl, by decide, rfl, by decide, by decide⟩, by decide,
    by decide, by decide⟩
  intro c
  cases c <;>
    exact ⟨⟨⟨rfl, rfl, .inl rfl, rfl, rfl, by decide, rfl⟩, by decide, by decide, by decide, rfl⟩, _, rfl, by decide⟩

/-- A drain on TARGET, within its tolerance, with these steps behind the ACTIVE one. -/
def drainingBefore (rest : List Step) : State :=
  { running 0 1000 with plan := ⟨{ stepTo 200000 .active with credited := 198500 } :: rest,
      .draining .target (125000#32 - BitVec.ofNat 32 9000000), none⟩ }

/-- A drain on HELD that completes, with a closed parcel behind it that is not quite due. -/
def drainingBehind : State :=
  { draining .held (stepTo 200000 .active) 9000000 with
    queue := ⟨[closedBack 3 5999999], some (openedBack 2000000), false⟩ }

/-- Closed parcels not yet due stand in the queue as the drain completes. -/
theorem witness_DrainStartsAndCompletes_behind :
    drainingBehind.BeltRuns table 1000
    ∧ noneDue table (drainingBehind.odometerAfter table 1000) drainingBehind.queue.closed
    ∧ drainingBehind.queue.closed ≠ [] := by
  refine ⟨⟨⟨rfl, rfl, .inl rfl, rfl, rfl, by decide, rfl⟩, by decide, by decide, by decide, rfl⟩, ?_, by decide⟩
  intro c h; cases h; decide

theorem witness_DrainStartsAndCompletes_loading :
    (∀ rest ∈ [[], [stepTo 5 .pending]], (drainingBefore rest).BeltRuns table 1000 ∧ (drainingBefore rest).modes.mode = .loading
      ∧ (drainingBefore rest).queue.closed = []
      ∧ (drainingBefore rest).plan.active = some { stepTo 200000 .active with credited := 198500 })
    ∧ firstPendingAt (drainingBefore [stepTo 5 .pending]).plan.steps 1 (stepTo 5 .pending)
    ∧ ∀ x ∈ (drainingBefore []).plan.steps, x.state ≠ .pending := by
  refine ⟨?_, ⟨rfl, rfl, by decide⟩, by decide⟩
  intro rest h
  simp only [List.mem_cons, List.not_mem_nil, or_false] at h
  obtain rfl | rfl := h <;>
    exact ⟨⟨⟨rfl, rfl, .inl rfl, rfl, rfl, by decide, rfl⟩, by decide, by decide, by decide, rfl⟩, rfl, rfl, rfl⟩

/-- Chapter 4, the drain's outcomes: 1,500 short is within the tolerance, 1,501 is topped up. -/
theorem test_tolerance_is_inclusive :
    let s := fun k => inMode (draining .target { stepTo 200000 .active with credited := k } 9000000) .suspended
    (after .drainComplete (s 198500)).plan.steps.map (·.outcome) = [some (.onTarget, -1500)]
    ∧ (after .drainComplete (s 198499)).gate.topUpCap = some 250 := by decide +kernel

/-- An interruption by the cord alone, the cord released. -/
def cordReleased (kinds : ReasonSet) : State :=
  { pouring with
    plan := ⟨[{ stepTo 200000 .active with kinds := kinds }], .interrupted, none⟩
    contacts := { pouring.contacts with latch := true }
    gate := { pouring.gate with stopSet := (ReasonSet.empty.add .plan).add .pullCord } }

/-- A plan that waits for the spout in SUSPENDED, the spout ready. -/
def readyToPour (st : Step) : State :=
  inMode { pouring with plan := ⟨[st], .waitSpout, none⟩,
                        gate := { pouring.gate with stopSet := (ReasonSet.empty.add .plan).add .mode } } .suspended

theorem witness_PlanTurnsInARequest :
    ((readyToPour (stepTo 200000 .active)).hears 0 [] ∧ (readyToPour (stepTo 200000 .active)).modes.mode = .suspended
      ∧ (readyToPour (stepTo 200000 .active)).loop.state = .run
      ∧ (readyToPour (stepTo 200000 .active)).plan.state = .waitSpout
      ∧ (readyToPour (stepTo 200000 .active)).plan.active = some (stepTo 200000 .active)
      ∧ (readyToPour (stepTo 200000 .active)).spoutReady = true
      ∧ (stepTo 200000 .active).resumeNeeded = false ∧ (stepTo 200000 .active).breakFlag = false)
    ∧ ((readyToPour { stepTo 200000 .active with resumeNeeded := true }).spoutReady = true
      ∧ (readyToPour { stepTo 200000 .active with breakFlag := true }).spoutReady = true)
    ∧ (∀ kinds ∈ [ReasonSet.spoutAlone, ReasonSet.empty.add .pullCord],
      (cordReleased kinds).hears 0 [] ∧ (cordReleased kinds).contacts.latch = true
      ∧ (cordReleased kinds).contacts.cordActive = false ∧ (cordReleased kinds).plan.state = .interrupted
      ∧ (cordReleased kinds).plan.active = some { stepTo 200000 .active with kinds := kinds }
      ∧ (cordReleased kinds).gate.stopSet.has .pullCord = true
      ∧ ((cordReleased kinds).gate.stopSet.remove .pullCord).others.isEmpty = true) := by
  refine ⟨⟨⟨rfl, rfl, rfl⟩, rfl, rfl, rfl, by decide, by decide, rfl, rfl⟩, by decide, ?_⟩
  intro kinds _
  have cleared : (((ReasonSet.empty.add .plan).add .pullCord).remove .pullCord).others.isEmpty = true := by decide
  have stands : ((ReasonSet.empty.add .plan).add .pullCord).has .pullCord = true := by decide
  exact ⟨⟨rfl, rfl, rfl⟩, rfl, rfl, rfl, rfl, stands, cleared⟩

/-- An interruption by the spout and these kinds, SPOUT being the last reason: a DROP sample waits that the KNOWN axis
accepts, or with which the UNKNOWN axis recovers. -/
def spoutReturns (known : Bool) (kinds : ReasonSet) : State :=
  { given (dropAxis pouring { pouring.spout.drop with
      known := known, implausible := 0, recovery := if known then 0 else 3, runSample := some (-2150) })
      .dropPos (.fresh (-2150)) with
    plan := ⟨[{ stepTo 200000 .active with kinds := kinds }], .interrupted, none⟩
    gate := { pouring.gate with stopSet := (ReasonSet.empty.add .plan).add .spout } }

theorem witness_PlanTurnsInARequest_axis :
    (∀ kinds, ∀ known, (spoutReturns known kinds).pins.porst = false
      ∧ ((spoutReturns known kinds).waitingFor (axisBinding .drop)).head? = some (.fresh (-2150))
      ∧ (spoutReturns known kinds).plan.state = .interrupted
      ∧ (spoutReturns known kinds).plan.active = some { stepTo 200000 .active with kinds := kinds }
      ∧ (spoutReturns known kinds).gate.stopSet.has .spout = true
      ∧ ((spoutReturns known kinds).gate.stopSet.remove .spout).others.isEmpty = true)
    ∧ (((spoutReturns true .spoutAlone).spout.axis .drop).takeSample .drop (.fresh (-2150))).2 = .accepted
    ∧ (((spoutReturns false .spoutAlone).spout.axis .drop).takeSample .drop (.fresh (-2150))).2 = .recovered := by
  refine ⟨fun kinds known => ?_, by decide, by decide⟩
  have stands : ((ReasonSet.empty.add .plan).add .spout).has .spout = true := by decide
  have cleared : (((ReasonSet.empty.add .plan).add .spout).remove .spout).others.isEmpty = true := by decide
  exact ⟨rfl, rfl, rfl, rfl, stands, cleared⟩

/-- R75: the spout ready again, a pour stopped by it alone goes on, and one stopped by another kind too waits. -/
theorem test_the_spout_alone_lets_the_pour_go_on :
    (∀ known, (after (.interruptionEnd (.axis .drop)) (spoutReturns known .spoutAlone)).plan.state = .pouring)
    ∧ (after (.interruptionEnd (.axis .drop)) (spoutReturns false (ReasonSet.spoutAlone.add .weigh))).plan.state
      = .waitProceed := by decide +kernel

/-- A dust sample at the stop level waits on the line as it pours, or as it stands interrupted by these kinds. -/
def stopRises (state : PlanState) (kinds : ReasonSet) : State :=
  given { dusty (zoneIn .clear 2 2 2 0) with
    plan := ⟨[{ stepTo 200000 .active with kinds := kinds }], state, none⟩ } (.dust 2) (.fresh 3000)

theorem witness_PlanTurnsInARequest_interruptions :
    (pouring.hears 0 [] ∧ pouring.modes.mode = .loading ∧ pouring.plan.state = .pouring
      ∧ pouring.plan.active = some (stepTo 200000 .active) ∧ pouring.gate.stopSet.has .mode = false
      ∧ ∀ z, pouring.gate.stopSet.has (.dust z) = false)
    ∧ (∀ kinds, ∀ state ∈ [PlanState.pouring, .interrupted], (stopRises state kinds).pins.porst = false
      ∧ ((stopRises state kinds).waitingFor (.dust 2)).head? = some (.fresh 3000)
      ∧ ((stopRises state kinds).dust.get 2).pendingRecord = none
      ∧ ((stopRises state kinds).dust.get 2).record = some gallery ∧ (stopRises state kinds).loop.maps (.dust 2) = true
      ∧ ((stopRises state kinds).dust.get 2).state = .clear
      ∧ (stopRises state kinds).gate.stopSet.has (.dust 2) = false
      ∧ (stopRises state kinds).plan.active = some { stepTo 200000 .active with kinds := kinds }
      ∧ (stopRises state kinds).bills.records.get 1 = .opened (lot 7 0 0)
      ∧ (stopRises state kinds).plan.state = state)
    ∧ (gallery.stop ≤ (3000 : Half).toNat ∧ gallery.rise ≤ min 50 (2 + 1) ∧ (0 : Nat) < gallery.threshold
      ∧ min 65535 (0 + 1) < gallery.threshold)
    ∧ ((ReasonSet.empty.add (.dust 0)).has (.dust 0) = true ∧ ∀ y, ReasonSet.empty.has (.dust y) = false) := by
  refine ⟨⟨⟨rfl, rfl, rfl⟩, rfl, rfl, rfl, by decide, by decide⟩, ?_, by decide, by decide⟩
  intro kinds state _
  refine ⟨rfl, rfl, rfl, rfl, ?_, rfl, ?_, rfl, rfl, rfl⟩
  · exact (by decide : pouring.loop.maps (.dust 2) = true)
  · exact (by decide : ReasonSet.empty.has (.dust 2) = false)

/-- R155: one dust stop is counted for an interruption, though two zones stop in it. -/
theorem test_dust_stop_counts_once :
    ((after (.dustRise 2) (stopRises .pouring ⟨0⟩)).bills.records.get 1).lot?.map (·.dustStops) = some 1
    ∧ ((after (.dustRise 2) (stopRises .interrupted (ReasonSet.empty.add (.dust 0)))).bills.records.get 1).lot?.map
      (·.dustStops) = some 0 := by decide +kernel

/-! ### Witnesses: spout travel -/

/-- A KNOWN or UNKNOWN DROP axis with these counts. -/
def dropWith (known : Bool) (implausible recovery : Nat) (runSample : Option Int) (h : Handed) : State :=
  given (dropAxis pouring { pouring.spout.drop with
    known := known, implausible := implausible, recovery := recovery, runSample := runSample }) .dropPos h

theorem witness_AxisSampleIsJudged :
    ((dropWith true 0 0 none .notFresh).pins.porst = false
      ∧ ((dropWith true 0 0 none .notFresh).waitingFor (axisBinding .drop)).head? = some .notFresh
      ∧ ((dropWith false 0 0 none .lost).waitingFor (axisBinding .drop)).head? = some .lost
      ∧ ((dropWith true 0 0 none .newlyLost).waitingFor (axisBinding .drop)).head? = some .newlyLost
      ∧ ((dropWith true 0 0 none .newlyLost).spout.axis .drop).known = true)
    ∧ (((dropWith true 0 0 none (.fresh (-4150))).waitingFor (axisBinding .drop)).head? = some (.fresh (-4150))
      ∧ ((dropWith true 0 0 none (.fresh (-4150))).spout.axis .drop).entry = some ⟨-15000, 5000, 600, 300, 8, 2000⟩
      ∧ ((dropWith true 0 0 none (.fresh (-4150))).spout.axis .drop).accepted = some (-2150)
      ∧ inAxisRange .drop (readPosition .drop (-4150)) = true
      ∧ (readPosition .drop (-4150) - (-2150)).natAbs ≤ 2000)
    ∧ (2000 < (readPosition .drop (-4151) - (-2150)).natAbs ∧ inAxisRange .drop (readPosition .drop (-20001)) = false
      ∧ ((dropWith true 1 0 none (.fresh (-4151))).spout.axis .drop).implausible < 2
      ∧ ((dropWith true 2 0 none (.fresh (-4151))).spout.axis .drop).implausible = 2)
    ∧ (((dropWith false 0 2 (some (-2150)) .newlyLost).waitingFor (axisBinding .drop)).head? = some .newlyLost
      ∧ ((dropWith false 0 2 (some (-2150)) .newlyLost).spout.axis .drop).known = false)
    ∧ (((given State.reset .dropPos (.fresh 0)).waitingFor (axisBinding .drop)).head? = some (.fresh 0)
      ∧ ((given State.reset .dropPos (.fresh 0)).spout.axis .drop).entry = none) := by decide

theorem witness_AxisRecoversInFourSamples :
    ((dropWith false 0 0 none (.fresh (-4150))).pins.porst = false
      ∧ ((dropWith false 0 0 none (.fresh (-4150))).waitingFor (axisBinding .drop)).head? = some (.fresh (-4150))
      ∧ Handed.value (.fresh (-4150)) = some (-4150)
      ∧ ((dropWith false 0 0 none (.fresh (-4150))).spout.axis .drop).entry = some ⟨-15000, 5000, 600, 300, 8, 2000⟩
      ∧ ((dropWith false 0 0 none (.fresh (-4150))).spout.axis .drop).known = false)
    ∧ (inAxisRange .drop (readPosition .drop (-20001)) = false
      ∧ inAxisRange .drop (readPosition .drop (-20000)) = true
      ∧ inAxisRange .drop (readPosition .drop 30000) = true
      ∧ inAxisRange .travel (readPosition .travel 25001) = false)
    ∧ (((dropWith false 0 1 (some (-2150)) (.fresh (-4151))).spout.axis .drop).recovery = 1
      ∧ 2000 < (readPosition .drop (-4151) - (-2150)).natAbs
      ∧ ((dropWith false 0 0 (some (-2150)) (.fresh (-4150))).spout.axis .drop).recovery = 0)
    ∧ (∀ n ∈ [1, 2, 3], ((dropWith false 0 n (some (-2150)) (.fresh (-4150))).spout.axis .drop).recovery = n
      ∧ ((dropWith false 0 n (some (-2150)) (.fresh (-4150))).spout.axis .drop).runSample = some (-2150))
    ∧ (readPosition .drop (-4150) - (-2150)).natAbs
      ≤ min 65535 (2000 * min 65535 (pouring.spout.drop.runGap + 1)) := by decide

theorem witness_ClampKeepsTheAllowedSpeeds :
    (300 : Nat) ≤ dropEntry.margin ∧ dropEntry.margin < 301
    ∧ (allowedSpeed dropEntry 300 = 0 ∧ allowedSpeed dropEntry 302 = 1 ∧ allowedSpeed dropEntry 302 < dropEntry.vmax
      ∧ allowedSpeed dropEntry 1500 = 600) := by decide

/-! ### Witnesses: dust -/

/-- LOAD_ZONE's parameters. -/
def zoneParams (number mark : Nat) (r : ZoneRecord) : List Byte :=
  BitVec.ofNat 8 (16 * number + mark) :: (encodeFields (zoneRecordReport r)).tail

/-- What the counters of a state come to, said so that it can be evaluated. -/
def countersHold (s : State) : Bool :=
  s.weigher.table.all (·.inRange) && decide (s.weigher.lastDelta ≤ 1000 ∧ s.weigher.gap ≤ 65535)
  && decide (s.weigher.residue < 1000000 ∧ s.weigher.implausible ≤ 2)
  && s.plan.steps.all (fun st => decide (st.topUps ≤ 3))
  && decide (s.loop.provingCount ≤ 7 ∧ s.loop.missedCount ≤ 2 ∧ s.loop.windowPosition ≤ 199
    ∧ s.loop.windowCount ≤ s.loop.windowPosition ∧ s.loop.outage ≤ 399)

/-- The same of a zone. -/
def zoneHolds (s : State) (z : ZoneNo) : Bool :=
  let y := s.dust.get z
  decide (y.warnCount ≤ 50 ∧ y.highCount ≤ 50 ∧ y.stopCount ≤ 50 ∧ y.exposure ≤ 65535 ∧ y.fallCount ≤ 50
    ∧ (y.record = none → y.exposure = 0))
  && y.record.all (·.inRange z) && y.pendingRecord.isNone && y.purgeTimer.all (fun n => decide (n ≤ 60000))

/-- The counters of a state that evaluate so are in their ranges. -/
theorem inRange_of (s : State) (all : countersHold s = true) (axes : ∀ a, (s.spout.axis a).inBounds)
    (zones : ∀ z, zoneHolds s z = true) (ages : ∀ i, (s.loop.freshnessOf i).all (fun r => decide (r.age ≤ 255)) = true)
    (bills : ∀ n, (s.bills.records.get n).lot?.all
      (fun l => decide (l.dustStops ≤ 65535 ∧ l.restarts ≤ 255)) = true) : s.CountersInRange := by
  simp only [countersHold, Bool.and_eq_true, decide_eq_true_eq, List.all_eq_true] at all
  have zone : ∀ z, _ := fun z => by
    have here := zones z
    simp only [zoneHolds, Bool.and_eq_true, decide_eq_true_eq] at here
    exact here
  obtain ⟨⟨⟨⟨table, pulses⟩, figures⟩, topUps⟩, loop⟩ := all
  refine ⟨?_, pulses, figures.1, figures.2, axes, fun z => ⟨(zone z).1.1.1.1, (zone z).1.1.1.2.1,
    (zone z).1.1.1.2.2.1, (zone z).1.1.1.2.2.2.1⟩, fun z => (zone z).1.1.1.2.2.2.2.2, ?_,
    fun z => (zone z).1.1.1.2.2.2.2.1, ?_, ?_, topUps, ?_, loop.1, loop.2.1, ⟨loop.2.2.1, loop.2.2.2.1⟩, loop.2.2.2.2⟩
  · intro t h; rw [h] at table; exact table
  · intro z r h
    cases h with
    | inl h => have here := (zone z).1.1.2; rw [h] at here; exact here
    | inr h => have here := (zone z).1.2; rw [h] at here; cases here
  · intro z n h; have here := (zone z).2; rw [h] at here; exact of_decide_eq_true here
  · intro i r h; have here := ages i; rw [h] at here; exact of_decide_eq_true here
  · intro n l h; have here := bills n; rw [h] at here; exact of_decide_eq_true here

theorem witness_ZoneRecordsAndAcknowledgement :
    (pouring.hears 19 (zoneParams 0 1 gallery) ∧ ((zoneParams 0 1 gallery).headD 0).toNat / 16 = 0
      ∧ 6 < ((zoneParams 7 1 gallery).headD 0).toNat / 16 ∧ 1 < ((zoneParams 6 2 gallery).headD 0).toNat % 16)
    ∧ ((dusty (zoneIn .latched 0 0 0 0)).hears 19 (zoneParams 3 1 gallery)
      ∧ ((zoneParams 3 1 gallery).headD 0).toNat / 16 = (2 : ZoneNo).val + 1
      ∧ ((dusty (zoneIn .latched 0 0 0 0)).dust.get 2).state = .latched)
    ∧ (pouring.hears 19 (zoneParams 6 0 gallery)
      ∧ ((zoneParams 6 0 gallery).headD 0).toNat / 16 = (5 : ZoneNo).val + 1
      ∧ ((zoneParams 6 0 gallery).headD 0).toNat % 16 = 0 ∧ (pouring.dust.get 5).state ≠ .latched)
    ∧ ((zoneParams 6 1 gallery).headD 0).toNat % 16 = 1
    ∧ ((readZoneRecord (zoneParams 6 1 gallery)).inRange 5 = true
      ∧ (readZoneRecord (zoneParams 6 1 { gallery with hysteresis := 500 })).inRange 5 = false
      ∧ pouring.loop.maps (.dust 5) = true ∧ State.reset.loop.maps (.dust 5) = false)
    ∧ ((dusty (zoneIn .latched 0 0 0 0)).hears 1 [0x30] ∧ (0x30 : Byte).toNat / 16 = (2 : ZoneNo).val + 1
      ∧ ((dusty (zoneIn .latched 0 0 0 0)).dust.get 2).record = some gallery
      ∧ ((dusty (zoneIn .latched 0 0 0 0)).dust.get 2).latest = some 1650 ∧ gallery.warn ≤ 1650
      ∧ ((dusty { zoneIn .latched 0 0 0 0 with latest := some 499 }).dust.get 2).latest = some 499
      ∧ 499 < gallery.warn
      ∧ 0 < gallery.purgeTime) := by
  refine ⟨⟨⟨rfl, rfl, rfl⟩, by decide⟩, ⟨⟨rfl, rfl, rfl⟩, by decide⟩, ⟨⟨rfl, rfl, rfl⟩, by decide⟩, by decide,
    by decide, ⟨rfl, rfl, rfl⟩, by decide⟩

theorem witness_ZoneRecordsAndAcknowledgement_low_bits :
    pouring.hears 1 [0x31] ∧ pouring.service.request = none ∧ (0x31 : Byte).toNat / 16 = (0x3F : Byte).toNat / 16 :=
  ⟨⟨rfl, rfl, rfl⟩, rfl, by decide⟩

/-- The gallery's record with no purge time. -/
def atOnce : ZoneRecord := { gallery with purgeTime := 0 }

theorem witness_ZoneRecordsAndAcknowledgement_at_once :
    (∀ latest, (dusty { zoneIn .latched 0 0 0 0 with record := some atOnce, latest := latest }).hears 1 [0x30]
      ∧ ((dusty { zoneIn .latched 0 0 0 0 with record := some atOnce, latest := latest }).dust.get 2).latest = latest
      ∧ ((dusty { zoneIn .latched 0 0 0 0 with record := some atOnce, latest := latest }).dust.get 2).record
        = some atOnce)
    ∧ atOnce.purgeTime = 0 ∧ atOnce.inRange 2 = true
    ∧ (atOnce.bandAt 300 = .warn ∧ atOnce.bandAt 299 = .clear ∧ (300 : Nat) < atOnce.warn) :=
  ⟨fun _ => ⟨⟨rfl, rfl, rfl⟩, rfl, rfl⟩, rfl, by decide, by decide⟩

/-- R124: without a purge time an acknowledged zone is judged at once, by the warn level minus the hysteresis. -/
theorem test_acknowledgement_expires_at_once :
    [some 300, some 299, none].map (fun latest => ((after (.ackDust [0x30]) (dusty { zoneIn .latched 0 0 0 0 with
      record := some atOnce, latest := latest })).dust.get 2).state) = [.warn, .clear, .clear] := by decide +kernel

theorem witness_ReadExposureClearsTheCounter :
    (pouring.hears 1 [0x00] ∧ (0x00 : Byte).toNat / 16 = 0 ∧ 6 < (0x70 : Byte).toNat / 16
      ∧ (0x70 : Byte).toNat % 16 = 0)
    ∧ ((dusty { zoneIn .latched 0 0 0 0 with exposure := 65535 }).hears 1 [0x30]
      ∧ (0x30 : Byte).toNat / 16 = (2 : ZoneNo).val + 1)
    ∧ (State.reset.hears 1 [0x10] ∧ (0x10 : Byte).toNat / 16 = (0 : ZoneNo).val + 1
      ∧ (State.reset.dust.get 0).record = none ∧ State.reset.CountersInRange
      ∧ State.reset.service.overrun = false ∧ State.reset.notices = []) := by
  refine ⟨⟨⟨rfl, rfl, rfl⟩, by decide⟩, ⟨⟨rfl, rfl, rfl⟩, by decide⟩, ⟨rfl, rfl, rfl⟩, by decide, by decide, ?_, rfl,
    rfl⟩
  exact inRange_of State.reset (by decide) (fun a => by
    cases a <;> exact ⟨by decide, by decide, by decide, by decide, by decide, by decide⟩) (by decide) (by decide)
    (by decide)

/-- The slot map with every slot UNUSED. -/
def unmappedLoop : LoopPort := { pouring.loop with slots := Vector.replicate 40 .unused }

/-- What the dust clauses ask: the zone of the pouring line, with its sample waiting. -/
def dustWaits (z : Zone) (h : Handed) : Prop :=
  let s := given (dusty z) (.dust 2) h
  s.pins.porst = false ∧ (s.waitingFor (.dust 2)).head? = some h ∧ (s.dust.get 2).pendingRecord = none
    ∧ (s.dust.get 2).record = some gallery ∧ s.loop.maps (.dust 2) = true

theorem witness_DustBandsRiseAndFall :
    (dustWaits (zoneIn .clear 2 2 2 0) (.fresh 3000) ∧ gallery.rise ≤ min 50 (2 + 1)
      ∧ gallery.stop ≤ (3000 : Half).toNat)
    ∧ (dustWaits (zoneIn .high 2 2 2 2) (.fresh 1299) ∧ (1299 : Half).toNat < gallery.high - gallery.hysteresis
      ∧ gallery.fall ≤ (zoneIn .high 2 2 2 2).fallCount + 1)
    ∧ (dustWaits (zoneIn .warn 2 2 2 1) (.returned 299) ∧ (299 : Half).toNat < gallery.warn - gallery.hysteresis
      ∧ (zoneIn .warn 2 2 2 1).fallCount + 1 < gallery.fall)
    ∧ (dustWaits (zoneIn .high 2 2 2 2) (.fresh 1300) ∧ gallery.high - gallery.hysteresis ≤ (1300 : Half).toNat)
    ∧ (dustWaits (zoneIn .clear 0 0 0 0) (.fresh 0) ∧ (zoneIn .clear 0 0 0 0).exposure < gallery.threshold) := by
  refine ⟨⟨⟨rfl, rfl, rfl, rfl, ?_⟩, by decide⟩, ⟨⟨rfl, rfl, rfl, rfl, ?_⟩, by decide⟩,
    ⟨⟨rfl, rfl, rfl, rfl, ?_⟩, by decide⟩, ⟨⟨rfl, rfl, rfl, rfl, ?_⟩, by decide⟩, ⟨rfl, rfl, rfl, rfl, ?_⟩, by decide⟩ <;> decide

theorem witness_DustStopsLatchesAndReturns :
    (∃ z, (given (dusty z) (.dust 2) .notFresh).dust.get 2 = z ∧ z.pendingRecord = some none
      ∧ ((given (dusty z) (.dust 2) .notFresh).waitingFor (.dust 2)).head? = some .notFresh)
    ∧ (dustWaits (zoneIn .stop 0 0 0 0) .newlyLost ∧ dustWaits (zoneIn .lost 0 0 0 0) .newlyLost)
    ∧ (dustWaits (zoneIn .high 0 0 0 0) .notFresh ∧ (zoneIn .high 0 0 0 0).exposure < gallery.threshold
      ∧ dustWaits { zoneIn .high 0 0 0 0 with exposure := 60000 } .lost ∧ gallery.threshold ≤ 60000)
    ∧ (dustWaits (zoneIn .purge 0 0 0 0) (.fresh 0) ∧ dustWaits (zoneIn .latched 0 0 0 0) (.returned 65535)
      ∧ ((zoneIn .purge 0 0 0 0).having gallery 0).exposure < gallery.threshold)
    ∧ (dustWaits (zoneIn .stop 0 0 0 2) (.fresh 2800) ∧ gallery.stop - gallery.hysteresis ≤ (2800 : Half).toNat
      ∧ dustWaits (zoneIn .stop 0 0 0 1) (.fresh 2799)
      ∧ ((zoneIn .stop 0 0 0 1).having gallery 2799).fallCount + 1 < gallery.fall)
    ∧ (dustWaits (zoneIn .stop 0 0 0 2) (.fresh 2799) ∧ (2799 : Half).toNat < gallery.stop - gallery.hysteresis
      ∧ gallery.fall ≤ ((zoneIn .stop 0 0 0 2).having gallery 2799).fallCount + 1
      ∧ ((zoneIn .stop 0 0 0 2).having gallery 2799).exposure < gallery.threshold)
    ∧ (dustWaits { zoneIn .lost 0 0 0 0 with exposure := 59999 } (.returned 3000)
      ∧ (({ zoneIn .lost 0 0 0 0 with exposure := 59999 } : Zone).having gallery 3000).exposure < gallery.threshold)
    ∧ (dustWaits { zoneIn .stop 0 0 0 0 with exposure := 59999 } (.fresh 3000)
      ∧ gallery.threshold ≤ (({ zoneIn .stop 0 0 0 0 with exposure := 59999 } : Zone).having gallery 3000).exposure) := by
  have here : pouring.loop.maps (.dust 2) = true := by decide
  refine ⟨⟨{ zoneIn .stop 0 0 0 0 with pendingRecord := some none }, rfl, rfl, rfl⟩,
    ⟨⟨rfl, rfl, rfl, rfl, here⟩, rfl, rfl, rfl, rfl, here⟩,
    ⟨⟨rfl, rfl, rfl, rfl, here⟩, by decide, ⟨rfl, rfl, rfl, rfl, here⟩, by decide⟩,
    ⟨⟨rfl, rfl, rfl, rfl, here⟩, ⟨rfl, rfl, rfl, rfl, here⟩, by decide⟩,
    ⟨⟨rfl, rfl, rfl, rfl, here⟩, by decide, ⟨rfl, rfl, rfl, rfl, here⟩, by decide⟩,
    ⟨⟨rfl, rfl, rfl, rfl, here⟩, by decide⟩, ⟨⟨rfl, rfl, rfl, rfl, here⟩, by decide⟩,
    ⟨rfl, rfl, rfl, rfl, here⟩, by decide⟩

/-- A record that enables a zone, and one that replaces a zone's record, wait for a sample event; and a zone's binding
that the slot map does not hold. -/
theorem witness_DustStopsLatchesAndReturns_records :
    (∀ z h, (given (dusty z) (.dust 2) h).pins.porst = false
      ∧ ((given (dusty z) (.dust 2) h).waitingFor (.dust 2)).head? = some h
      ∧ (given (dusty z) (.dust 2) h).dust.get 2 = z)
    ∧ (({ Zone.restart with pendingRecord := some (some gallery) } : Zone).record = none
      ∧ ({ zoneIn .high 0 0 0 0 with pendingRecord := some (some atOnce) } : Zone).record ≠ none)
    ∧ (given { dusty (zoneIn .high 0 0 0 0) with loop := unmappedLoop } (.dust 2) .notFresh).loop.maps (.dust 2) = false :=
  ⟨fun _ _ => ⟨rfl, rfl, rfl⟩, ⟨rfl, by decide⟩, by decide⟩

/-- R115: the record is in force from its sample event on, its threshold too; a zone enabled over a LOST binding is LOST. -/
theorem test_pending_records_take_force :
    let zone := fun (z : Zone) (h : Handed) => (after (.dustSample 2) (given (dusty z) (.dust 2) h)).dust.get 2
    let enabling : Zone := { Zone.restart with pendingRecord := some (some { gallery with rise := 1 }) }
    ((zone enabling (.fresh 1500)).state = .high ∧ (zone enabling .lost).state = .lost
      ∧ (zone enabling .notFresh).record = some { gallery with rise := 1 })
    ∧ (zone { zoneIn .high 2 2 2 2 with
        exposure := 7, pendingRecord := some (some { gallery with threshold := 7 }) } .notFresh).state = .latched
    ∧ (zone { zoneIn .clear 2 2 2 2 with pendingRecord := some (some gallery) } (.fresh 3000)).stopCount = 1 := by
  decide +kernel

/-- A zone in PURGE with this much of its time left. -/
def purging (n : Nat) (latest : Nat) : State :=
  dusty { zoneIn .purge 0 0 0 0 with purgeTimer := some n, latest := some latest }

theorem witness_PurgeTimerRunsOut :
    ((purging 2 1300).pins.porst = false ∧ ((purging 2 1300).dust.get 2).record = some gallery
      ∧ ((purging 2 1300).dust.get 2).purgeTimer = some 2 ∧ ((purging 1 1300).dust.get 2).purgeTimer = some 1
      ∧ ((purging 1 1300).dust.get 2).latest = some 1300)
    ∧ (pouring.dust.get 2).purgeTimer = none := by decide

/-- Chapter 6: a purge that expires at 1,300, the high level minus the hysteresis, enters HIGH, at 1,299 WARN. -/
theorem test_purge_expiry_levels_are_inclusive :
    ((after (.purgeExpiry 2) (purging 1 1300)).dust.get 2).state = .high
    ∧ ((after (.purgeExpiry 2) (purging 1 1299)).dust.get 2).state = .warn
    ∧ ((after (.purgeTimerTick 2) (purging 2 1299)).dust.get 2).state = .purge := by decide +kernel

/-! ### Witnesses: contacts and gate -/

/-- LOAD_CONTACT's parameters for roles, polarities and a debounce count. -/
def contactParams (roles : List (Nat × Nat)) (debounce : Nat) : List Byte :=
  encodeFields ((List.range 16).flatMap (fun i =>
    [.small (roles.getD i (0, 0)).1, .small (roles.getD i (0, 0)).2, .small 0]) ++ [.num 1 debounce])

/-- PULL_CORD, BELT_SWAY and TIP_CONTACT on inputs 0 to 2. -/
def cordAndSway : List (Nat × Nat) := [(1, 1), (2, 0), (3, 0)]

theorem witness_ContactTableAndAcknowledgement :
    (pouring.hears 25 (contactParams cordAndSway 1) ∧ pouring.modes.mode ≠ .setup)
    ∧ (setUp.hears 25 (contactParams cordAndSway 0) ∧ setUp.modes.mode = .setup
      ∧ paramNat (readParams contactKinds (contactParams cordAndSway 0)) 48 = 0
      ∧ 32 < paramNat (readParams contactKinds (contactParams cordAndSway 33)) 48
      ∧ readEntry (readParams contactKinds (contactParams [(5, 0)] 1)) 0 = none
      ∧ ∃ x y, readEntry (readParams contactKinds (contactParams [(1, 0), (1, 0)] 1)) 0 = some (.pullCord, x)
        ∧ readEntry (readParams contactKinds (contactParams [(1, 0), (1, 0)] 1)) 1 = some (.pullCord, y))
    ∧ (setUp.hears 25 (contactParams cordAndSway 32)
      ∧ paramNat (readParams contactKinds (contactParams cordAndSway 32)) 48 = 32
      ∧ paramNat (readParams contactKinds (contactParams cordAndSway 1)) 48 = 1
      ∧ ∃ entry : InputNo → ContactRole × Bool,
        (∀ i, readEntry (readParams contactKinds (contactParams cordAndSway 32)) i = some (entry i))
        ∧ ∀ i j, i ≠ j → (entry i).1 = (entry j).1 → (entry i).1 = .unused)
    ∧ (setUp.hears 0 [] ∧ setUp.contacts.latch = false)
    ∧ ((cordReleased ⟨0⟩).hears 0 [] ∧ (cordReleased ⟨0⟩).contacts.latch = true
      ∧ (cordReleased ⟨0⟩).contacts.cordActive = false
      ∧ (planIn (cordReleased ⟨0⟩) .waitProceed).plan.state ≠ .interrupted
      ∧ ({ pouring.contacts with
          inputs := pouring.contacts.inputs.set 2 ⟨.pullCord, false, true, 0, false⟩ } : Contacts).cordActive = true) := by
  refine ⟨⟨⟨rfl, rfl, rfl⟩, by decide⟩, ⟨⟨rfl, rfl, rfl⟩, rfl, by decide +kernel, by decide +kernel,
    by decide +kernel, false, false, by decide +kernel, by decide +kernel⟩,
    ⟨⟨rfl, rfl, rfl⟩, by decide +kernel, by decide +kernel, ?_⟩, ⟨⟨rfl, rfl, rfl⟩, rfl⟩,
    ⟨⟨rfl, rfl, rfl⟩, rfl, by decide, by decide, by decide⟩⟩
  exact ⟨fun i => ((readEntry (readParams contactKinds (contactParams cordAndSway 32)) i).getD (.unused, false)),
    by decide +kernel, by decide +kernel⟩

/-- A PULL_CORD input that is new, that changes its polarity while ACTIVE, and that keeps its entry. -/
theorem witness_ContactTableAndAcknowledgement_cord :
    readEntry (readParams contactKinds (contactParams cordAndSway 32)) 0 = some (.pullCord, false)
    ∧ (setUp.contacts.inputs.get 0).role ≠ .pullCord
    ∧ (({ setUp.contacts with inputs := setUp.contacts.inputs.set 0 ⟨.pullCord, true, true, 0, true⟩ } : Contacts).inputs.get
        0).active = true
    ∧ (({ setUp.contacts with inputs := setUp.contacts.inputs.set 0 ⟨.pullCord, false, false, 0, true⟩ } : Contacts).inputs.get
        0).activeLow = false
    ∧ State.reset.ContactsAgree := by
  refine ⟨by decide +kernel, by decide, by decide, by decide, by decide, by decide, by decide, by decide⟩

/-- R141, R145: a new PULL_CORD input sets the latch, and a new TIP_CONTACT input starts in contact. -/
theorem test_load_contact_latches :
    let t := after (.loadContact (contactParams cordAndSway 32)) setUp
    t.contacts.latch = true ∧ t.gate.stopSet.has .pullCord = true ∧ t.spout.tipContact = true
    ∧ t.holds = setUp.holds := by decide +kernel

/-- A CONTACTS state waits on the pouring line, whose cord input has this counter. -/
def contactsWait (counter : Nat) (h : Handed) : State :=
  given { pouring with contacts := { pouring.contacts with
    inputs := pouring.contacts.inputs.set 2 ⟨.pullCord, false, false, counter, false⟩ } } .contacts h

theorem witness_ContactsAreDebounced :
    ((contactsWait 1 (.fresh 0b101)).pins.porst = false
      ∧ ((contactsWait 1 (.fresh 0b101)).waitingFor .contacts).head? = some (.fresh 0b101)
      ∧ ((contactsWait 1 (.fresh 0b101)).contacts.inputs.get 2).role ≠ .unused
      ∧ ((0b101 : Half).getLsbD (2 : InputNo).val != ((contactsWait 1 (.fresh 0b101)).contacts.inputs.get 2).activeLow)
        ≠ ((contactsWait 1 (.fresh 0b101)).contacts.inputs.get 2).active
      ∧ (contactsWait 1 (.fresh 0b101)).contacts.debounce.getD 1
        ≤ ((contactsWait 1 (.fresh 0b101)).contacts.inputs.get 2).counter + 1
      ∧ ¬ (contactsWait 0 (.fresh 0b101)).contacts.debounce.getD 1
        ≤ ((contactsWait 0 (.fresh 0b101)).contacts.inputs.get 2).counter + 1)
    ∧ (((contactsWait 1 .newlyLost).waitingFor .contacts).head? = some .newlyLost
      ∧ ((contactsWait 1 .newlyLost).contacts.inputs.get 2).role = .pullCord
      ∧ ((contactsWait 1 .newlyLost).contacts.inputs.get 2).active = false)
    ∧ ((contactsWait 1 .notFresh).waitingFor .contacts).head? = some .notFresh
    ∧ ((contactsWait 1 .lost).waitingFor .contacts).head? = some .lost := by decide

/-- The tip contact's input one sample before it closes over hold 4, with the measured position 2,150 mm down. -/
def touching : State :=
  given { pouring with contacts := { pouring.contacts with
    inputs := pouring.contacts.inputs.set 1 ⟨.tipContact, false, false, 1, false⟩ } } .contacts (.fresh 0b011)

theorem witness_ContactsAreDebounced_tip :
    (touching.contacts.inputs.get 1).role = .tipContact
    ∧ (∀ j, (touching.contacts.inputs.get j).role = .tipContact → j = 1)
    ∧ (touching.contacts.inputs.get 1).active = false ∧ (touching.contacts.inputs.get 1).failSafeHold = false
    ∧ touching.spout.drop.accepted = some (-2150) ∧ touching.holds.holds.get 3 = some filled
    ∧ ((after .contactsSample touching).contacts.inputs.get 1).active = true
    ∧ (after .contactsSample touching).spout.position = .over 3 := by decide +kernel

/-- No input in the TIP_CONTACT role, and a tip that touches over no hold. -/
theorem witness_ContactsAreDebounced_elsewhere :
    (∀ i, ({ touching with contacts := { touching.contacts with
      inputs := touching.contacts.inputs.set 1 .restart } }.contacts.inputs.get i).role ≠ .tipContact)
    ∧ (after .contactsSample { touching with holds := { touching.holds with clearLevel := none } }).spout.position
      = .stray := by decide +kernel

/-- R55: the tip at -2,150 stands 9,050 mm above the floor at -11,200 and 4,850 mm above the fill of 4,200. -/
theorem test_tip_contact_measures_the_hold :
    ((after .contactsSample touching).holds.holds.get 3).map (·.offset) = some (some 4850) := by decide +kernel

/-- The second differing sample of a debounce count of 2 latches the cord. -/
theorem test_cord_latches_at_the_debounce_count :
    (after (.contactDebounceChange 2) (contactsWait 1 (.fresh 0b101))).contacts.latch = true
    ∧ (after .contactsSample (contactsWait 0 (.fresh 0b101))).contacts.latch = false := by decide +kernel

theorem witness_GatePositionIsHeld :
    ((given pouring .gatePos (.fresh 1001)).pins.porst = false
      ∧ ((given pouring .gatePos (.fresh 1001)).waitingFor .gatePos).head? = some (.fresh 1001)
      ∧ ((given pouring .gatePos (.returned 0)).waitingFor .gatePos).head? = some (.returned 0)
      ∧ ((given pouring .gatePos .newlyLost).waitingFor .gatePos).head? = some .newlyLost
      ∧ ((given pouring .gatePos .lost).waitingFor .gatePos).head? = some .lost)
    ∧ ∀ c, (given pouring .gatePos (.fresh 1001)).plan.state ≠ .stopping c := ⟨by decide, nofun⟩

/-- The stop reasons of the pouring line agree with their owners. -/
theorem pouring_reasons : pouring.ReasonsAgree ∧ pouring.ContactReasonsAgree :=
  ⟨⟨by rfl, by rfl, by rfl, by rfl, by rfl, by rfl, by rfl, by rfl, by unfold State.dustAgrees; decide⟩,
    ⟨by unfold State.spoutAgrees; decide, by unfold State.hatchAgrees; decide, by unfold State.swayAgrees; decide⟩⟩

theorem witness_GateOpensOnlyWhenAllAgree :
    pouring.gate.opening ≠ 0 ∧ pouring.ReasonsAgree ∧ pouring.ContactReasonsAgree
    ∧ (({ pouring.gate with
      highCaps := pouring.gate.highCaps.set 2 (some 300), topUpCap := some 1 } : Gate).opening = 1) :=
  ⟨by decide, pouring_reasons.1, pouring_reasons.2, by decide⟩

/-! ### Witnesses: bills -/

/-- OPEN_LOT's parameters: the identifier, the commodity and the density. -/
def lotParams (id density : Nat) : List Byte := encodeFields [.num 4 id, .num 1 9, .num 2 density]

/-- A bill store in which every record holds one lot in this way. -/
def storeOf (r : BillRecord) : State := { setUp with bills := { setUp.bills with records := Vector.replicate 12 r } }

theorem witness_BillsAreOpenedAndClosed :
    (setUp.hears 7 (lotParams 8 299) ∧ natOfChars ((lotParams 8 299).drop 5) < 300
      ∧ 1200 < natOfChars ((lotParams 8 1201).drop 5) ∧ 300 ≤ natOfChars ((lotParams 8 300).drop 5)
      ∧ natOfChars ((lotParams 8 1200).drop 5) ≤ 1200)
    ∧ (∃ n l, (setUp.bills.records.get n).lot? = some l
      ∧ l.identifier = BitVec.ofNat 32 (natOfChars ((lotParams 7 300).take 4)))
    ∧ (∀ n, (storeOf (.opened (lot 7 0 0))).bills.records.get n ≠ .free)
    ∧ ((∀ n l, (setUp.bills.records.get n).lot? = some l
        → l.identifier ≠ BitVec.ofNat 32 (natOfChars ((lotParams 8 300).take 4)))
      ∧ setUp.bills.records.get 0 = .free ∧ ∀ m < 0, setUp.bills.records.get m ≠ .free)
    ∧ (setUp.hears 1 [0x00] ∧ (0x00 : Byte).toNat / 16 = 0 ∧ 12 < (0xD0 : Byte).toNat / 16)
    ∧ (setUp.hears 1 [0xC0] ∧ (0xC0 : Byte).toNat / 16 = (11 : BillNo).val + 1
      ∧ ∀ l, setUp.bills.records.get 11 ≠ .opened l)
    ∧ (setUp.hears 1 [0x20] ∧ (0x20 : Byte).toNat / 16 = (1 : BillNo).val + 1
      ∧ setUp.bills.records.get 1 = .opened (lot 7 0 0) ∧ (lot 7 0 0).inTransit = 0
      ∧ (∀ st ∈ setUp.plan.steps, st.bill = 1 → st.state ≠ .pending ∧ st.state ≠ .active))
    ∧ ((storeOf (.opened (lot 7 1 1))).bills.records.get 1 = .opened (lot 7 1 1) ∧ (lot 7 1 1).inTransit ≠ 0)
    ∧ (planned.bills.records.get 1 = .opened (lot 7 0 0)
      ∧ ∃ st ∈ planned.plan.steps, st.bill = 1 ∧ (st.state = .pending ∨ st.state = .active)) := by
  refine ⟨⟨⟨rfl, rfl, rfl⟩, by decide⟩, ⟨1, lot 7 0 0, by decide, by decide⟩, by decide, ⟨?_, by decide, by decide⟩,
    ⟨⟨rfl, rfl, rfl⟩, by decide⟩, ⟨⟨rfl, rfl, rfl⟩, by decide, ?_⟩, ⟨⟨rfl, rfl, rfl⟩, by decide⟩, by decide,
    by decide⟩
  · intro n l h
    have all : ∀ n, (setUp.bills.records.get n).lot?.all
        (fun l => decide (l.identifier ≠ BitVec.ofNat 32 (natOfChars ((lotParams 8 300).take 4)))) = true := by decide
    have here := all n
    rw [h] at here
    exact of_decide_eq_true here
  · intro l h
    have free : setUp.bills.records.get 11 = .free := by decide
    exact absurd (free ▸ h) nofun

theorem witness_BillsAreOpenedAndClosed_low_bits :
    setUp.hears 1 [0x21] ∧ setUp.service.request = none ∧ (0x21 : Byte).toNat / 16 = (0x2F : Byte).toNat / 16 :=
  ⟨⟨rfl, rfl, rfl⟩, rfl, by decide⟩

theorem witness_ReleaseBillFreesTheRecord :
    (setUp.hears 1 [0x00] ∧ (0x00 : Byte).toNat / 16 = 0 ∧ 12 < (0xD0 : Byte).toNat / 16
      ∧ (0xD0 : Byte).toNat % 16 = 0)
    ∧ (setUp.hears 1 [0x20] ∧ (0x20 : Byte).toNat / 16 = (1 : BillNo).val + 1
      ∧ (∀ l k, setUp.bills.records.get 1 ≠ .closed l k))
    ∧ ((storeOf (.closed (lot 7 0 0) 5)).hears 1 [0xC0] ∧ (0xC0 : Byte).toNat / 16 = (11 : BillNo).val + 1
      ∧ (storeOf (.closed (lot 7 0 0) 5)).bills.records.get 11 = .closed (lot 7 0 0) 5) := by
  refine ⟨⟨⟨rfl, rfl, rfl⟩, by decide⟩, ⟨⟨rfl, rfl, rfl⟩, by decide, ?_⟩, ⟨rfl, rfl, rfl⟩, by decide⟩
  intro l k h
  have opened : setUp.bills.records.get 1 = .opened (lot 7 0 0) := by decide
  exact absurd (opened ▸ h) nofun

/-! ### Witnesses: the quay loop -/

/-- The loop port with one slot as given. -/
def slotAs (i : SlotNo) (e : SlotEntry) (s : State) : State := { s with loop := s.loop.putSlot i e }

/-- SETUP with an empty slot map. -/
def unmapped : State := { setUp with loop := { setUp.loop with slots := Vector.replicate 40 .unused } }

theorem witness_SlotMapAndThresholdAreLoaded :
    (pouring.hears 4 [0, 0, 0, 0] ∧ pouring.modes.mode ≠ .setup)
    ∧ (setUp.hears 4 [40, 0, 0, 0] ∧ setUp.modes.mode = .setup ∧ 40 ≤ (40 : Byte).toNat ∧ 2 < (0x30 : Byte).toNat / 16
      ∧ ((0x10 : Byte).toNat / 16 = 1 ∧ ((0 : Byte).toNat = 0 ∧ 15 < (16 : Byte).toNat))
      ∧ ((0x20 : Byte).toNat / 16 = 2 ∧ ((15 : Byte).toNat < 16 ∧ 19 < (20 : Byte).toNat)))
    ∧ (unmapped.hears 4 [39, 0x10, 15, 1] ∧ (39 : Byte).toNat = (39 : SlotNo).val
      ∧ (15 : Byte).toNat = sampleNumber .gatePos ∧ 1 ≤ (1 : Byte).toNat ∧ unmapped.loop.slotOf .gatePos = none
      ∧ setUp.loop.slotOf .gatePos = some 14 ∧ (14 : SlotNo) ≠ 39)
    ∧ (unmapped.hears 4 [0, 0x20, 16, 255] ∧ (16 : Byte).toNat = commandNumber .travelCmd
      ∧ (19 : Byte).toNat = commandNumber .gateCmd ∧ unmapped.loop.commandSlotOf .travelCmd = none
      ∧ setUp.loop.commandSlotOf .travelCmd = some 15)
    ∧ (setUp.hears 1 [0] ∧ (0 : Byte).toNat = 0 ∧ 200 < (201 : Byte).toNat ∧ 1 ≤ (1 : Byte).toNat
      ∧ (200 : Byte).toNat ≤ 200) :=
  ⟨⟨⟨rfl, rfl, rfl⟩, by decide⟩, ⟨⟨rfl, rfl, rfl⟩, by decide⟩, ⟨⟨rfl, rfl, rfl⟩, by decide⟩,
    ⟨⟨rfl, rfl, rfl⟩, by decide⟩, ⟨rfl, rfl, rfl⟩, by decide⟩

theorem witness_FrameInRunJudgesTheSlots :
    pouring.pins.porst = false ∧ pouring.loop.state = .run ∧ emptyFrame.sync = 0x1F35#16 ∧ badFrame.sync = 0x1F35#16 :=
  ⟨rfl, rfl, rfl, rfl⟩

/-- The line with the GATE_POS slot and the gate's command slot as they stood before the frame, GATE_POS LOST or not. -/
def beforeFrame (age : Nat) (lost : Bool) : State :=
  let s := slotAs 14 (.sample .gatePos 5 ⟨age, some false, some 9⟩)
    (slotAs 18 (.command .gateCmd 5 ⟨3, some false, some 9⟩ ⟨false, 0, false⟩) pouring)
  { s with loop := s.loop.setLost .gatePos lost }

/-- A frame that brings both slots 600. -/
def bringing : Frame :=
  withCheck { emptyFrame with slots := (emptyFrame.slots.set 14 ⟨true, true, 600⟩).set 18 ⟨true, true, 600⟩ }

theorem witness_FrameInRunJudgesTheSlots_hand_on :
    (∀ age lost, (beforeFrame age lost).loop.slots.get 14 = .sample .gatePos 5 ⟨age, some false, some 9⟩
      ∧ (beforeFrame age lost).loop.slots.get 18 = .command .gateCmd 5 ⟨3, some false, some 9⟩ ⟨false, 0, false⟩
      ∧ (beforeFrame age lost).loop.isLost .gatePos = lost)
    ∧ (∀ j, j ≠ 14 → ((beforeFrame 0 true).loop.slots.get j).sampleBinding ≠ some .gatePos)
    ∧ (Freshness.broughtBy ⟨4, some false, some 9⟩ bringing 14 = true
      ∧ Freshness.broughtBy ⟨4, some false, some 9⟩ emptyFrame 14 = false)
    ∧ ∀ i, (unmappedLoop.slots.get i).sampleBinding ≠ some .gatePos := by
  refine ⟨fun age lost => ⟨rfl, rfl, rfl⟩, by decide, by decide +kernel, by decide⟩

/-- R171: what GATE_POS is handed as by a frame that brings it a value and by one that does not, LOST before or not, at
its stale limit and one period before it; and the command that the frame brings fresh (R173). -/
theorem test_a_frame_hands_its_samples_on :
    let handed := fun (f : Frame) age lost =>
      let t := after (.loopPeriodEvent f) (beforeFrame age lost)
      (t.waitingFor .gatePos, t.loop.isLost .gatePos)
    [handed bringing 0 false, handed bringing 9 true, handed emptyFrame 3 false, handed emptyFrame 4 false,
      handed emptyFrame 9 true] = [([.fresh 600], false), ([.returned 600], false), ([.notFresh], false),
        ([.newlyLost], true), ([.lost], true)]
    ∧ ((after (.loopPeriodEvent bringing) (beforeFrame 0 false)).loop.toForm.map (·.fresh)) = [[.gateCmd]] := by
  decide +kernel

/-- A frame that brings the start character of station 17 and the length 1. -/
def opening : Frame :=
  withCheck { emptyFrame with char1 := ⟨true, true, 17⟩, char2 := ⟨false, true, 1⟩ }

/-- R181: from IDLE the two characters lead to RECEIVING with one character to come. -/
theorem test_receiver_takes_a_message :
    let s := { pouring with service := { pouring.service with station := 17 } }
    let t := after (.loopPeriodEvent opening) s
    t.service.receiver = .receiving (some 1) [] false
    ∧ t.loop.toForm.map (fun w => (w.blank1, w.blank2)) = [(true, true)]
    ∧ (after (.loopPeriodEvent (withCheck { emptyFrame with char1 := ⟨false, true, 0xA4⟩ })) t).service.request
      = some ⟨0xA4, []⟩ := by decide +kernel

/-- The pouring line with its loop in a state and its outage counter as given. -/
def loopIn (state : LoopState) (outage missed : Nat) : State :=
  { pouring with loop := { pouring.loop with state := state, outage := outage, missedCount := missed } }

theorem witness_TimebaseExpirySendsASubstitute :
    ((loopIn .run 0 1).pins.porst = false ∧ (loopIn .run 0 1).loop.state = .run
      ∧ (loopIn .run 0 1).loop.missedCount < 2)
    ∧ ((loopIn .seeking 398 0).loop.state ≠ .run ∧ (loopIn .seeking 398 0).modes.mode = .loading
      ∧ (loopIn .seeking 398 0).loop.outage + 1 < 400)
    ∧ ((inMode (loopIn .down 399 0) .suspended).loop.state ≠ .run
      ∧ (inMode (loopIn .down 399 0) .suspended).modes.mode ≠ .loading) := by decide

theorem witness_LineSignalAndTheLossOfRun :
    ((loopIn .down 0 0).pins.porst = false ∧ (loopIn .down 0 0).loop.state ≠ .run)
    ∧ ((loopIn .run 398 2).loop.state = .run ∧ (loopIn .run 398 2).modes.partResetPending = false
      ∧ (loopIn .run 398 2).loop.missedCount = 2 ∧ (loopIn .run 398 2).loop.outage + 1 < 400) := by decide

/-- SETUP, outside RUN, with this proving count. -/
def proving (n : Nat) : State :=
  { setUp with loop := { setUp.loop with state := .proving, provingCount := n } }

theorem witness_EightGoodFramesLeadToRun :
    (pouring.pins.porst = false ∧ strayFrame.sync ≠ 0x1F35#16 ∧ pouring.loop.state = .run)
    ∧ (emptyFrame.sync = 0x1F35#16 ∧ (loopIn .seeking 0 0).loop.state = .seeking)
    ∧ ((proving 6).loop.state = .proving ∧ badFrame.check ≠ frameCheck badFrame
      ∧ emptyFrame.check = frameCheck emptyFrame ∧ (proving 6).loop.provingCount < 7
      ∧ (proving 7).loop.provingCount = 7 ∧ (proving 7).plan.state ≠ .interrupted) := by decide +kernel

/-- The loop in RUN near the end of a window, with this many bad frames counted. -/
def inWindow (position count : Nat) : State :=
  { pouring with loop := { pouring.loop with windowPosition := position, windowCount := count } }

theorem witness_ErrorWindowGovernsLoopQuality :
    ((inWindow 198 19).pins.porst = false ∧ (inWindow 198 19).loop.state = .run ∧ badFrame.sync = 0x1F35#16
      ∧ badFrame.check ≠ frameCheck badFrame
      ∧ (inWindow 198 19).loop.threshold ≤ (inWindow 198 19).loop.windowCount + 1
      ∧ (inWindow 198 19).qualityLow = false ∧ (inWindow 198 19).loop.windowPosition < 199)
    ∧ 199 ≤ (inWindow 199 9).loop.windowPosition := by decide +kernel

/-- The rise at the threshold of 20, and the clearing below the quality clear count of 10. -/
theorem test_quality_threshold_and_clear_count :
    (after (.qualityLow badFrame) (inWindow 198 19)).qualityLow = true
    ∧ (after (.errorWindowEnd emptyFrame) (stoppedBy (inWindow 199 9) .loopQuality)).qualityLow = false
    ∧ (after (.errorWindowEnd emptyFrame) (stoppedBy (inWindow 199 10) .loopQuality)).qualityLow = true := by
  decide +kernel

/-- The freshness of a slot one period before its stale limit of 5. -/
def nearlyStale : Freshness := ⟨4, some true, some 7⟩

theorem witness_StaleSlotsAreLostOrTakenOver :
    (pouring.pins.porst = false ∧ pouring.modes.partResetPending = false ∧ 5 ≤ min 255 (nearlyStale.age + 1))
    ∧ ((slotAs 0 (.sample .scaleLoad 5 nearlyStale) pouring).loop.slots.get 0 = .sample .scaleLoad 5 nearlyStale
      ∧ (slotAs 0 (.sample .scaleLoad 5 nearlyStale) pouring).loop.isLost .scaleLoad = false
      ∧ ∀ j, j ≠ 0 → ((slotAs 0 (.sample .scaleLoad 5 nearlyStale) pouring).loop.slots.get j).sampleBinding
        ≠ some .scaleLoad)
    ∧ (pouring.loop.state = .run ∧ badFrame.sync = 0x1F35#16 ∧ badFrame.check ≠ frameCheck badFrame
      ∧ (emptyFrame.slots.get 0).v = false)
    ∧ (slotAs 15 (.command .travelCmd 5 nearlyStale ⟨false, 0, true⟩) pouring).loop.slots.get 15
      = .command .travelCmd 5 nearlyStale ⟨false, 0, true⟩ := by decide +kernel

/-- The pouring line with a frame to form. -/
def toForm (good : Bool) (reply : Option Reply) (pending : Bool) : State :=
  { pouring with
    loop := { pouring.loop with toForm := [⟨if good then emptyFrame else badFrame, good, false, false, [], true⟩] }
    service := { pouring.service with reply := reply }
    modes := { pouring.modes with partResetPending := pending } }

theorem witness_FrameIsFormedOnLoopOut :
    ((toForm true none false).pins.porst = false
      ∧ (toForm true none false).loop.toForm = ⟨emptyFrame, true, false, false, [], true⟩ :: []
      ∧ (toForm true none false).modes.partResetPending = false ∧ (toForm true none false).service.reply = none)
    ∧ (toForm false none false).loop.toForm = ⟨badFrame, false, false, false, [], true⟩ :: []
    ∧ ((toForm true (some ⟨[0, 2, 0x12, 0], 3⟩) false).service.reply = some ⟨[0, 2, 0x12, 0], 3⟩
      ∧ emptyFrame.char1.p = false ∧ ([0, 2, 0x12, 0] : List Byte).length ≤ 3 + 1) := by decide +kernel

/-- A frame to form whose gate command is fresh. -/
def freshGate (lastT : Bool) (reply : Option Reply) : State :=
  let s := slotAs 18 (.command .gateCmd 5 ⟨0, some true, some 0⟩ ⟨false, 0, lastT⟩) pouring
  { s with loop := { s.loop with toForm := [⟨emptyFrame, true, false, false, [.gateCmd], true⟩] },
           service := { s.service with reply := reply } }

/-- A fresh command whose T moves, one whose value stands, and a reply that takes both positions, ends in the second and
ends in the first. -/
theorem witness_FrameIsFormedOnLoopOut_toggles_and_replies :
    (∀ lastT reply, (freshGate lastT reply).pins.porst = false
      ∧ (freshGate lastT reply).loop.toForm = ⟨emptyFrame, true, false, false, [.gateCmd], true⟩ :: []
      ∧ (freshGate lastT reply).modes.partResetPending = false ∧ (freshGate lastT reply).service.reply = reply
      ∧ (freshGate lastT reply).loop.slots.get 18 = .command .gateCmd 5 ⟨0, some true, some 0⟩ ⟨false, 0, lastT⟩)
    ∧ (CommandBinding.gateCmd ∈ [CommandBinding.gateCmd] ∧ (emptyFrame.slots.get 18).t ≠ true)
    ∧ ((true && true && !false && !emptyFrame.char1.p) = true
      ∧ [0, 1, 2].map (fun sent => decide (([0, 2, 0x12, 0] : List Byte).length ≤ sent + 1)) = [false, false, false]
      ∧ (0 + 1 + 1 < ([0, 2, 0x12, 0] : List Byte).length ∧ ([0, 2, 0x12, 0] : List Byte).length ≤ 2 + 1 + 1)
      ∧ ([0, 2, 0x12, 0] : List Byte).length ≤ 3 + 1) :=
  ⟨fun lastT reply => ⟨rfl, rfl, rfl, rfl, rfl⟩, by decide +kernel, by decide +kernel⟩

theorem witness_FrameIsFormedOnLoopOut_gate :
    (∀ j, j ≠ 18 → ((freshGate true none).loop.slots.get j).commandBinding ≠ some .gateCmd)
    ∧ ∀ i, (({ toForm true none false with loop := { unmappedLoop with
      toForm := (toForm true none false).loop.toForm } } : State).loop.slots.get i).commandBinding ≠ some .gateCmd := by
  decide

/-- R136 and R137: the cap that the gate is handed, and the opening it records; without GATE_CMD both stay. -/
theorem test_forming_records_the_opening :
    let cap := fun (v : Half) (s : State) =>
      let s := slotAs 18 (.command .gateCmd 5 ⟨0, some true, some v⟩ ⟨false, 0, true⟩) s
      let t := after .frameFormation { s with loop := { s.loop with toForm := (toForm true none false).loop.toForm } }
      (t.gate.commandCap, t.gate.lastWritten)
    [cap 800 pouring, cap 1001 pouring, cap (-1) pouring, cap 800 (stoppedBy pouring .sway)]
      = [(800, 800), (1000, 1000), (0, 0), (800, 0)] := by decide +kernel

/-- R185: the third and fourth characters of a reply leave in one frame and empty the reply buffer. -/
theorem test_reply_fills_both_positions :
    let t := after .replySent (freshGate false (some ⟨[0, 2, 0x12, 0], 2⟩))
    t.service.reply = none
    ∧ t.loop.loopOut.map (fun f => (f.char1, f.char2)) = some (⟨false, true, 0x12⟩, ⟨false, true, 0⟩) := by
  decide +kernel

theorem witness_LoopRestartSuspendsThePart :
    (loopIn .seeking 399 0).pins.porst = false ∧ (loopIn .seeking 399 0).modes.mode = .loading
    ∧ (loopIn .seeking 399 0).loop.state ≠ .run ∧ 400 ≤ (loopIn .seeking 399 0).loop.outage + 1
    ∧ (loopIn .seeking 399 0).plan.state.flowing = true
    ∧ (planIn (loopIn .seeking 399 0) .waitSpout).plan.state.flowing = false := by decide

/-- R110, R149, R177: the notices that events leave. A loss of CONTACTS closes the hatch, whose notice stands last, or,
with a cord alone, pulls it; an axis that becomes UNKNOWN and one that recovers tell of the spout, and so does a measured
contact; the gate's loss, the loop's loss and a command slot taken over tell of themselves. -/
theorem test_notices_of_events :
    let told := fun (c : Instr) (s : State) => (after c s).notices.map (·.event)
    let cordAlone := { contactsWait 0 .newlyLost with contacts := { Contacts.restart with
      inputs := Contacts.restart.inputs.set 2 ⟨.pullCord, false, false, 0, false⟩ } }
    [told .contactsSample (contactsWait 0 .newlyLost), told .contactsSample cordAlone,
      told (.axisSample .drop) (dropWith true 0 0 none .newlyLost), told .gatePosSample (given pouring .gatePos .newlyLost),
      told .lineSignalLost pouring,
      told (.commandTakeover .travelCmd .expiry) (slotAs 15 (.command .travelCmd 5 nearlyStale ⟨false, 0, true⟩) pouring)]
      = [[.contact (.hatchClosed 3), .plan .interrupted], [.contact .pullCord, .plan .interrupted],
        [.plan .interrupted, .spout .unknown], [.plan .interrupted, .contact .gateLost],
        [.plan .interrupted, .loop .loopLost], [.loop (.commandStale .travelCmd)]]
    ∧ Event.spout (.surfaceFound 3 4850) ∈ told .contactsSample touching
    ∧ Event.spout .recovered ∈ told (.axisRecovery .drop)
      { dropWith false 0 3 (some (-2150)) (.fresh (-4150)) with
        spout := { (dropWith false 0 3 (some (-2150)) (.fresh (-4150))).spout with position := .unknown } } := by
  decide +kernel

/-- R139, R150: a LOOP_RESTART keeps the raw data, and READ_GATE reports them absent until a sample is taken. -/
theorem test_raw_data_after_a_loop_restart :
    let sampled := { loopIn .seeking 399 0 with
      contacts := { pouring.contacts with raw := some 5, sampleTaken := true } }
    let restarted := after .loopRestart sampled
    sampled.contacts.rawReported = some 5
    ∧ (restarted.contacts.raw, restarted.contacts.rawReported) = (some 5, none)
    ∧ (after .contactsSample { given pouring .contacts (.fresh 0x8001) with
        contacts := restarted.contacts }).contacts.rawReported = some 0x8001 := by decide +kernel

/-- R201: the summary of a BILL notice for a bill that is not FREE takes 30 characters. -/
theorem test_bill_summary_takes_thirty_characters :
    (encodeFields (pouring.summary (.bill 1 .spill))).length = 30 := by decide +kernel

/-! ### Witnesses: notices, modes and restarts -/

theorem witness_PollNoticeTakesTheOldest :
    (pouring.raiseNotice (.weigh .scaleLost)).hears 0 []
    ∧ (pouring.raiseNotice (.weigh .scaleLost)).notices
      = ⟨.weigh .scaleLost, pouring.summary (.weigh .scaleLost)⟩ :: []
    ∧ pouring.hears 0 [] ∧ pouring.notices = [] := ⟨⟨rfl, rfl, rfl⟩, rfl, ⟨rfl, rfl, rfl⟩, rfl⟩

theorem witness_ModeRequestsMoveTheMode :
    (pouring.hears 0 [] ∧ pouring.modes.mode ≠ .setup)
    ∧ (unmapped.hears 0 [] ∧ unmapped.modes.mode = .setup
      ∧ (∃ b, (∀ z, b ≠ .dust z) ∧ unmapped.loop.maps b = false) ∧ ∃ b, unmapped.loop.mapsCommand b = false)
    ∧ (setUp.hears 0 [] ∧ setUp.modes.mode = .setup ∧ (∀ b, (∀ z, b ≠ .dust z) → setUp.loop.maps b = true)
      ∧ (∀ b, setUp.loop.mapsCommand b = true) ∧ setUp.weigher.table ≠ none ∧ setUp.holds.vessel ≠ none
      ∧ (∀ a, (setUp.spout.axis a).entry ≠ none) ∧ (∃ h, setUp.holds.holds.get h ≠ none)
      ∧ setUp.loop.state = .run ∧ setUp.plan.state = .idle
      ∧ ∀ st ∈ setUp.plan.steps, st.state ≠ .pending)
    ∧ (pouring.modes.mode = .loading ∧ (planIn pouring .waitProceed).plan.state ≠ .pouring
      ∧ (planIn pouring .waitProceed).plan.state ≠ .interrupted)
    ∧ ((inMode pouring .suspended).hears 0 [] ∧ (inMode pouring .suspended).modes.mode = .suspended
      ∧ (inMode pouring .suspended).loop.state = .run
      ∧ (inMode (loopIn .seeking 0 0) .suspended).loop.state ≠ .run)
    ∧ (pouring.plan.state.flowing = true ∧ (planIn pouring .waitProceed).plan.state.flowing = false
      ∧ (planIn pouring .waitProceed).queue.carriesMass = false
      ∧ TransitQueue.carriesMass ⟨[], some ⟨none, false, 1, 0⟩, false⟩ = true) := by
  refine ⟨⟨⟨rfl, rfl, rfl⟩, by decide⟩, ⟨⟨rfl, rfl, rfl⟩, rfl, ⟨.gatePos, nofun, by decide⟩, .gateCmd, by decide⟩,
    ⟨⟨rfl, rfl, rfl⟩, rfl, ?_, ?_, by decide, by decide, ?_, ⟨3, by decide⟩, rfl, rfl, nofun⟩, by decide,
    ⟨⟨rfl, rfl, rfl⟩, by decide⟩, by decide⟩
  · intro b hb
    cases b with
    | dust z => exact absurd rfl (hb z)
    | _ => decide
  · intro b; cases b <;> decide
  · intro a; cases a <;> decide

/-- SUSPENDED on an IDLE plan with a step to do. -/
def resumable : State :=
  inMode { pouring with plan := ⟨[stepTo 1 .done, { stepTo 200000 .pending with credited := 7 }], .idle, some 0⟩,
                        gate := { pouring.gate with stopSet := (ReasonSet.empty.add .plan).add .mode } } .suspended

theorem witness_ModeRequestsMoveTheMode_activation :
    (resumable.hears 0 [] ∧ resumable.modes.mode = .suspended ∧ resumable.loop.state = .run
      ∧ resumable.plan.state = .idle ∧ (∀ x ∈ resumable.plan.steps, x.state ≠ .active)
      ∧ firstPendingAt resumable.plan.steps 1 { stepTo 200000 .pending with credited := 7 })
    ∧ (planned.hears 0 [] ∧ planned.modes.mode = .setup ∧ planned.plan.state = .idle
      ∧ (∀ x ∈ planned.plan.steps, x.state ≠ .active) ∧ firstPendingAt planned.plan.steps 0 (stepTo 5000 .pending)
      ∧ planned.loop = setUp.loop ∧ planned.weigher = setUp.weigher ∧ planned.holds = setUp.holds
      ∧ planned.spout = setUp.spout) :=
  ⟨⟨⟨rfl, rfl, rfl⟩, rfl, rfl, rfl, by decide, rfl, rfl, by decide⟩, ⟨rfl, rfl, rfl⟩, rfl, rfl, by decide,
    ⟨rfl, rfl, by decide⟩, rfl, rfl, rfl, rfl⟩

/-- R66 and R87: a step that RESUME finds PENDING pours with the mass it had. -/
theorem test_resume_activates_the_step :
    let t := after (.resume []) resumable
    t.plan.state = .pouring ∧ t.plan.active.map (·.credited) = some 7 ∧ t.weigher.tag = some 1 := by decide +kernel

/-- A PART_RESET pending on a reply of four characters of which these have left, a frame waiting whose first position
is taken or not, and two syncs missed. -/
def resetting (sent : Nat) (taken : Bool) : State :=
  { pouring with
    loop := { pouring.loop with
      missedCount := 2
      toForm := [⟨withCheck { emptyFrame with char1 := ⟨false, taken, 9⟩ }, true, false, false, [], true⟩] }
    service := { pouring.service with reply := some ⟨[0, 2, 0xA5, 0], sent⟩ }
    modes := { pouring.modes with partResetPending := true } }

/-- A reply that ends in the first position, in the second alone and in the second after the first, one discarded with
RUN, and a bill to keep. -/
theorem witness_PartResetFollowsItsReply :
    (∀ sent taken, (resetting sent taken).pins.porst = false ∧ (resetting sent taken).modes.partResetPending = true
      ∧ (resetting sent taken).service.reply = some ⟨[0, 2, 0xA5, 0], sent⟩
      ∧ (resetting sent taken).loop.state = .run ∧ (resetting sent taken).loop.missedCount = 2)
    ∧ (∀ x ∈ [(3, false), (3, true), (2, false)], ∃ w rest, (resetting x.1 x.2).loop.toForm = w :: rest ∧ w.good = true
      ∧ w.replyOk = true ∧ ((!w.blank1 && !w.frame.char1.p) || (!w.blank2 && !w.frame.char2.p)) = true
      ∧ ([0, 2, 0xA5, 0] : List Byte).length
        ≤ x.1 + (!w.blank1 && !w.frame.char1.p).toNat + (!w.blank2 && !w.frame.char2.p).toNat)
    ∧ ((resetting 0 false).pourUnopposed ∧ (resetting 0 false).bills.records.get 1 = .opened (lot 7 0 0)
      ∧ (resetting 0 false).bills.records.get 2 = .free) := by
  refine ⟨fun sent taken => ⟨rfl, rfl, rfl, rfl, rfl⟩, ?_, fun _ => by decide, by decide, by decide⟩
  intro x hx
  simp only [List.mem_cons, List.not_mem_nil, or_false] at hx
  obtain rfl | rfl | rfl := hx <;> exact ⟨_, _, rfl, rfl, rfl, by decide, by decide⟩

/-- R163 and R174: the third missed sync discards the reply, and the part, reset, sends frame 1 of its own. -/
theorem test_the_third_missed_sync_takes_the_reset :
    let t := after (.partResetEffect (.replyDiscarded .missedSync)) (resetting 0 false)
    t.modes.lastRestart = .partReset ∧ t.loop.loopOut.map (·.frameCount) = some 1 ∧ t.loop.state = .down
    ∧ ((t.bills.records.get 1).lot?.map (·.restarts)) = some 1 := by decide +kernel

/-- Chapter 8: a kept store counts the restart and holds what was on the belt as unresolved. -/
theorem test_power_on_settles_the_bills :
    let s := { pouring with bills := { pouring.bills with
      records := pouring.bills.records.set 1 (.opened (lot 7 9 4)) } }
    (((after (.powerOn 17 true) s).bills.records.get 1).lot?).map (fun l => (l.inTransit, l.unresolved, l.restarts))
      = some (0, 9, 1)
    ∧ (after (.powerOn 17 false) s).bills.records.get 1 = .free := by decide +kernel

/-! ### Witnesses: what every step keeps -/

/-- The pouring line with a command waiting. -/
def commanded : State := { pouring with pending := [.pollNotice []] }

/-- The step that takes it. -/
theorem commanded_steps : ∃ t, step commanded = .next t := ⟨_, rfl⟩

theorem witness_StepsKeepTheReasons :
    commanded.ReasonsAgree ∧ commanded.ContactReasonsAgree ∧ commanded.ContactsAgree
    ∧ (commanded.plan.state = .pouring ∧ commanded.pourUnopposed) ∧ ∃ t, step commanded = .next t :=
  ⟨⟨pouring_reasons.1.mode, pouring_reasons.1.loop, pouring_reasons.1.plan, pouring_reasons.1.latch,
    pouring_reasons.1.zeroing, pouring_reasons.1.weigh, pouring_reasons.1.deck, pouring_reasons.1.gate,
    pouring_reasons.1.dust⟩, ⟨pouring_reasons.2.spout, pouring_reasons.2.hatch, pouring_reasons.2.sway⟩,
    ⟨by decide, by decide, by decide, by decide⟩, ⟨rfl, fun _ => by decide⟩, commanded_steps⟩

theorem witness_StepsKeepTheListsInOrder :
    commanded.noticesDistinct ∧ commanded.planOrdered ∧ ∃ t, step commanded = .next t :=
  ⟨by unfold State.noticesDistinct; decide,
    ⟨⟨[], [stepTo 200000 .active], [], rfl, nofun, by decide, by decide, nofun⟩,
    by decide⟩, commanded_steps⟩

/-- A notice posted to a queue that holds one of its source between two others, and to one that holds none. -/
theorem witness_StepsKeepTheListsInOrder_posting :
    let n : Notice := ⟨.plan .stopping, []⟩
    let q : List Notice := [⟨.weigh .scaleLost, []⟩] ++ ⟨.plan .pouring, []⟩ :: [⟨.loop .loopRun, []⟩]
    (q.map (fun x => x.event.source)).Nodup ∧ (Event.plan .pouring).source = n.event.source
    ∧ (∀ x ∈ ([⟨.weigh .scaleLost, []⟩] : List Notice), x.event.source ≠ n.event.source)
    ∧ (after .weighingEvent (belt pouring .newlyLost .notFresh)).notices.map (·.event)
      = [.weigh .scaleLost, .plan .interrupted]
    ∧ .partReset ∉ (after .weighingEvent (belt pouring .newlyLost .notFresh)).came := by decide +kernel

/-- The same with a table whose every field is in its range. -/
def counted : State := weighsWith commanded { table with segmentLength := 20000 }

theorem witness_StepsKeepTheCounters :
    counted.queueFits ∧ counted.CountersInRange ∧ ∃ t, step counted = .next t :=
  ⟨⟨by decide, by decide⟩, inRange_of counted (by decide) (fun a => by
    cases a <;> exact ⟨by decide, by decide, by decide, by decide, by decide, by decide⟩) (by decide) (by decide)
    (by decide), ⟨_, rfl⟩⟩

/-- The pouring line with its spout's derived state formed, and a command waiting. -/
def formed : State := { pouring.recomputeSpout false with pending := [.pollNotice []] }

/-- The facts of that line, evaluated. -/
theorem formed_facts :
    (formed.spout.position = .over 3 ∧ formed.holds.clearLevel = some (-200) ∧ formed.spout.drop.accepted = some (-2150)
      ∧ formed.spout.travel.accepted = some 6000 ∧ formed.spout.reach.accepted = some 15000
      ∧ formed.holds.vessel = some vessel ∧ formed.holds.holds.get 3 = some filled)
    ∧ (∀ a, (formed.spout.axis a).known = true) ∧ (∀ h, (formed.holds.holds.get h).isSome = true → h = 3) :=
  ⟨by decide +kernel, fun a => by cases a <;> decide +kernel, by decide +kernel⟩

theorem witness_ClampKeepsTheAllowedSpeeds_step : formed.SpoutDerived ∧ ∃ t, step formed = .next t := by
  obtain ⟨⟨above, level, drop, travel, reach, loaded, held⟩, known, only⟩ := formed_facts
  have inside : formed.tipInside 3 :=
    ⟨vessel, filled, 6000, 15000, loaded, held, travel, reach, by decide, by decide, by decide, by decide⟩
  have first : ∀ h, formed.tipInside h → h = 3 := fun h ⟨_, r, _, _, _, present, _⟩ => only h (by rw [present]; rfl)
  refine ⟨{
    unknown := fun ⟨a, h⟩ => by rw [known a] at h; cases h
    unplaced := fun _ h => by rw [level] at h; cases h
    placed := fun l tip _ hl ht => by
      rw [level] at hl; rw [drop] at ht; cases hl; cases ht
      exact ⟨fun h => absurd h (by decide), fun _ => ⟨fun h here => first h here.1 ▸ above,
        fun none => absurd inside (none 3)⟩⟩
    band := fun h r tip here present ht => by
      rw [above] at here; cases here; rw [held] at present; cases present; rw [drop] at ht; cases ht
      exact ⟨by decide +kernel, 5000, by decide +kernel, by decide +kernel, by decide +kernel⟩
    noBand := fun h => absurd above (h 3)
    cap := fun v d e h => absurd h (by decide +kernel)
    noCap := fun _ => by decide +kernel
    overClear := fun h => by rw [above] at h; cases h
    overHold := fun h v r here hv present => by
      rw [above] at here; cases here; rw [loaded] at hv; cases hv; rw [held] at present; cases present
      exact ⟨fun e he => by
        have entry : formed.spout.travel.entry = some ⟨0, 25000, 1000, 500, 8, 100⟩ := by decide +kernel
        rw [entry] at he; cases he; decide +kernel, fun e he => by
        have entry : formed.spout.reach.entry = some ⟨0, 40000, 1000, 500, 8, 100⟩ := by decide +kernel
        rw [entry] at he; cases he; decide +kernel⟩
    astray := fun h => by rw [above] at h; cases h <;> contradiction
    dropUp := by decide +kernel
    dropHeld := fun h => absurd h (by decide +kernel)
    dropDown := fun l e _ hl he => by
      have entry : formed.spout.drop.entry = some ⟨-15000, 5000, 600, 300, 8, 2000⟩ := by decide +kernel
      rw [level] at hl; cases hl; rw [entry] at he; cases he
      exact ⟨fun h r here present => by
        cases first h here.1; rw [held] at present; cases present; decide +kernel,
        fun none => absurd inside (none 3)⟩
    follows := fun a => by
      cases a <;>
        exact ⟨⟨fun d h => by revert d; decide +kernel, by decide +kernel, by decide +kernel⟩,
          ⟨fun d h => by revert d; decide +kernel, by decide +kernel, by decide +kernel⟩⟩ },
    ⟨_, rfl⟩⟩

theorem witness_StepsKeepTheHolds : commanded.HoldsAgree ∧ ∃ t, step commanded = .next t := by
  have derived : ∀ h : HoldNo, (commanded.holds.holds.get h).all (fun (r : HoldRecord) => decide (
      r.floor = r.deckLevel - r.static.depth ∧ r.coamingTop = r.deckLevel + r.static.coaming
      ∧ r.fill = (r.volume * 10 + r.static.area - 1) / r.static.area
      ∧ r.surface = max r.floor (min r.coamingTop (r.floor + r.fill + (r.offset.getD r.static.heap : Nat)))
      ∧ r.deckLevel = deckLevelAt vessel (-1800) (-1800) r.reference)) = true := by decide
  have at_ : ∀ h r, commanded.holds.holds.get h = some r → _ := fun h r hr =>
    of_decide_eq_true (by have here := derived h; rw [hr] at here; exact here)
  refine ⟨⟨fun h r hr => ⟨(at_ h r hr).1, (at_ h r hr).2.1, (at_ h r hr).2.2.1, (at_ h r hr).2.2.2.1⟩, ?_,
    by decide, by decide, by decide⟩, commanded_steps⟩
  intro v h r hv hr
  have only : commanded.holds.vessel = some vessel := rfl
  rw [only] at hv
  cases hv
  exact (at_ h r hr).2.2.2.2

theorem witness_StepsKeepTheBills : commanded.BillsAgree ∧ ∃ t, step commanded = .next t := by
  refine ⟨⟨?_, by decide, ?_, by decide, ?_, nofun⟩, commanded_steps⟩
  · intro n l h
    have all : ∀ n, (commanded.bills.records.get n).lot?.all (fun l => decide (
        l.weighed = l.entrySum + l.spill + l.unresolved + l.inTransit)) = true := by decide
    have here := all n
    rw [h] at here
    have sum : l.weighed = l.entrySum + l.spill + l.unresolved + l.inTransit := of_decide_eq_true here
    exact sum
  · intro n l c h
    have none : ∀ n, (match commanded.bills.records.get n with
      | .closed _ _ => false
      | _ => true) = true := by decide
    have here := none n
    rw [h] at here
    exact absurd here nofun
  · intro n h
    cases h
    exact ⟨stepTo 200000 .active, by decide, rfl, rfl⟩

end Sys2Proof.Tests
end

section
/-! SUPPORT. READ_EXPOSURE (R125): what a request that is heard comes to, the reply it leaves, and the zone number. -/

namespace Sys2Proof.Machine

/-! ### Requests that are heard, and their replies (R183, R184, R186) -/

/-- The status character (R197) in the words of the statements. -/
theorem statusChar_eq (c : ResultCode) (overrun : Bool) (queued : List Notice) :
    statusChar c overrun (!queued.isEmpty)
      = BitVec.ofNat 8 (c.number + (if overrun then 64 else 0) + (if queued = [] then 0 else 128)) := by
  cases overrun <;> cases queued <;> rfl

/-- Forming the reply changes the service unit alone, and leaves it answering. -/
theorem State.formReply_eq (s : State) (code : Byte) (p : List Byte) (a : Answer) :
    s.formReply code p a = s.setService (s.answering s.notices code p a.code a.data) := by
  rw [State.formReply, statusChar_eq]
  rfl

/-- An event in which nothing came about ends as its work left it: no notice of it wants a new summary. -/
theorem State.event_of_came_nil (s : State) {f : State → State} (h : (f s.begin).came = []) :
    s.event f = f s.begin := by
  have quiet : (f s.begin).resummed = id := funext fun n => by simp [State.resummed, State.raisedSeveral, h]
  have kept : (f s.begin).came.filter (·.lasting) = (f s.begin).came := by simp [h]
  rw [State.event, State.finish, quiet, List.map_id, kept]
  rfl

/-- A request that is heard and whose work lets nothing come about is answered with that work and its reply. -/
theorem State.take_serve_of_hears {s : State} {code : Byte} {count : Nat} {p : List Byte}
    {act : State → State × Answer} (heard : s.hears count p) (quiet : (act s.begin).1.came = []) :
    s.take (·.serve code count p act) = .next ((act s.begin).1.formReply code p (act s.begin).2) := by
  obtain ⟨hporst, hreply, hcount⟩ := heard
  have served : s.begin.serve code count p act = (act s.begin).1.formReply code p (act s.begin).2 := by
    simp [State.serve, State.begin, hreply, hcount]
  have came : (s.begin.serve code count p act).came = [] := by simp [served, quiet]
  rw [State.take, hporst, State.event_of_came_nil s (f := (·.serve code count p act)) came, served]
  rfl

/-! ### Numbers 1 to n -/

/-- A number outside 1 to n is no index. -/
theorem numbered_eq_none {n v : Nat} (h : v = 0 ∨ n < v) : numbered n v = none :=
  dif_neg (by omega)

/-- A number 1 to n is the index before it. -/
theorem numbered_succ {n : Nat} (i : Fin n) : numbered n (i.val + 1) = some i :=
  dif_pos ⟨by omega, i.isLt⟩

/-! ### READ_EXPOSURE (R125) -/

/-- A number outside 1 to 6 is refused. -/
theorem readExposure_outside (s : State) {c : Byte} (h : c.toNat / 16 = 0 ∨ 6 < c.toNat / 16) :
    readExposure [c] s = refuse .badParam s := by
  have noZone : numbered 6 (paramNat (readParams [.small] [c]) 0) = none := numbered_eq_none h
  rw [readExposure, noZone]

/-- A zone's exposure counter is read and set to 0. -/
theorem readExposure_zone (s : State) {c : Byte} {z : ZoneNo} (h : c.toNat / 16 = z.val + 1) :
    readExposure [c] s = done (s.setDust (s.dust.set z { s.dust.get z with exposure := 0 }))
      [.num 2 (s.dust.get z).exposure] := by
  have zone : numbered 6 (paramNat (readParams [.small] [c]) 0) = some z := by
    rw [← numbered_succ z, ← h]
    rfl
  rw [readExposure, zone]

/-- READ_EXPOSURE of a number outside 1 to 6 is refused with BAD_PARAM. -/
theorem exec_readExposure_outside {s : State} {c : Byte} (heard : s.hears 1 [c])
    (h : c.toNat / 16 = 0 ∨ 6 < c.toNat / 16) :
    exec (.readExposure [c]) s = .next (s.refused 0x52 [c] .badParam) := by
  have work := readExposure_outside s.begin h
  have quiet : (readExposure [c] s.begin).1.came = [] := by rw [work]; rfl
  calc exec (.readExposure [c]) s
      = .next ((readExposure [c] s.begin).1.formReply 0x52 [c] (readExposure [c] s.begin).2) :=
        State.take_serve_of_hears heard quiet
    _ = .next (s.refused 0x52 [c] .badParam) := by rw [work, State.formReply_eq]; rfl

/-- READ_EXPOSURE of a zone answers the counter, sets it to 0 and leaves all else as it is. -/
theorem exec_readExposure_zone {s : State} {c : Byte} {z : ZoneNo} (heard : s.hears 1 [c])
    (h : c.toNat / 16 = z.val + 1) :
    exec (.readExposure [c]) s = .next { s with
      dust := s.dust.set z { s.dust.get z with exposure := 0 },
      service := s.answering s.notices 0x52 [c] .done [.num 2 (s.dust.get z).exposure], came := [] } := by
  have work := readExposure_zone s.begin h
  have quiet : (readExposure [c] s.begin).1.came = [] := by rw [work]; rfl
  calc exec (.readExposure [c]) s
      = .next ((readExposure [c] s.begin).1.formReply 0x52 [c] (readExposure [c] s.begin).2) :=
        State.take_serve_of_hears heard quiet
    _ = _ := by rw [work, State.formReply_eq]; rfl

/-- The reply that answers a counter of 0, with neither OVERRUN nor a notice waiting. -/
theorem State.answering_zero_reply {s : State} {code : Byte} {p : List Byte} (clean : s.service.overrun = false) :
    (s.answering [] code p .done [.num 2 0]).reply = some ⟨[0, 4, code, 0, 0, 0], 0⟩ := by
  simp [State.answering, clean, encodeFields, charsOf, ResultCode.number]

/-- Settles O32: the two outcomes of the zone number; a disabled zone's counter is 0 by the counters' ranges. -/
theorem readExposureClearsTheCounter : Obligations.ReadExposureClearsTheCounter := by
  intro s c heard _
  refine ⟨exec_readExposure_outside heard, fun z number => ⟨exec_readExposure_zone heard number, ?_⟩⟩
  intro disabled ranges clean noNotice
  refine ⟨_, exec_readExposure_zone heard number, ?_⟩
  have zero : (s.dust.get z).exposure = 0 := ranges.disabled z disabled
  simpa [noNotice, zero] using State.answering_zero_reply clean

end Sys2Proof.Machine
end

section
/-! SUPPORT. RELEASE_BILL (R159): how an event that raises one notice ends, what a heard request comes to that is
refused or raises one notice, and the cases of a record. -/

namespace Sys2Proof.Machine

/-! ### Events that raise one notice (R186) -/

/-- An event that has raised one notice, and in which nothing else came about, only forgets the raising at its end. -/
theorem State.finish_of_came_singleton {s : State} {src : Source} (h : s.came = [.noticeRaised src]) :
    s.finish = s.setCame [] := by
  have once : ∀ x, s.raisedSeveral x = false := fun x => by
    have atMost : s.came.count (.noticeRaised x) ≤ 1 := by rw [h]; exact List.count_le_length
    exact decide_eq_false (by omega)
  have single : s.resummed = id := funext fun n => by simp [State.resummed, once]
  rw [State.finish, single, List.map_id, h]
  rfl

/-- A request that is heard and refused changes nothing but the service unit. -/
theorem State.take_serve_refuse {s : State} {code : Byte} {count : Nat} {p : List Byte}
    {act : State → State × Answer} {r : ResultCode} (heard : s.hears count p)
    (work : act s.begin = refuse r s.begin) :
    s.take (·.serve code count p act) = .next (s.refused code p r) := by
  have quiet : (act s.begin).1.came = [] := by rw [work]; rfl
  rw [State.take_serve_of_hears heard quiet, work, State.formReply_eq]
  rfl

/-- Raising a notice leaves the service unit as it is, and so what it answers with a given queue. -/
theorem State.raiseNotice_answering (u : State) (e : Event) (queued : List Notice) (code : Byte) (p : List Byte)
    (r : ResultCode) (data : List Field) :
    (u.raiseNotice e).answering queued code p r data = u.answering queued code p r data := rfl

/-- A request that is heard, changes the state to `u`, raises one notice and is answered: the notice waits when the
reply is formed, and its raising is forgotten at the end of the event. -/
theorem State.take_serve_raise {s u : State} {code : Byte} {count : Nat} {p : List Byte}
    {act : State → State × Answer} {e : Event} {a : Answer} (heard : s.hears count p)
    (work : act s.begin = (u.raiseNotice e, a)) (fresh : u.came = []) :
    s.take (·.serve code count p act) = .next { u with
      notices := postNotice ⟨e, u.summary e⟩ u.notices,
      service := u.answering (postNotice ⟨e, u.summary e⟩ u.notices) code p a.code a.data, came := [] } := by
  obtain ⟨hporst, hreply, hcount⟩ := heard
  have judged : s.begin.serve code count p act = (act s.begin).1.formReply code p (act s.begin).2 := by
    simp [State.serve, State.begin, hreply, hcount]
  have served : s.begin.serve code count p act = (u.raiseNotice e).formReply code p a := by rw [judged, work]
  have came : ((u.raiseNotice e).formReply code p a).came = [.noticeRaised e.source] := by
    simp [State.formReply, fresh]
  rw [State.take, hporst, State.event, served, State.finish_of_came_singleton came, State.formReply_eq,
    State.raiseNotice_answering, State.raiseNotice_notices]
  rfl

/-! ### RELEASE_BILL (R159) -/

/-- A number outside 1 to 12 is refused. -/
theorem releaseBill_outside (s : State) {c : Byte} (h : c.toNat / 16 = 0 ∨ 12 < c.toNat / 16) :
    releaseBill [c] s = refuse .badParam s := by
  have noRecord : numbered 12 (paramNat (readParams [.small] [c]) 0) = none := numbered_eq_none h
  rw [releaseBill, noRecord]

/-- The number of a record, as RELEASE_BILL reads it. -/
theorem releaseBill_number {c : Byte} {n : BillNo} (h : c.toNat / 16 = n.val + 1) :
    numbered 12 (paramNat (readParams [.small] [c]) 0) = some n := by
  rw [← numbered_succ n, ← h]
  rfl

/-- A record that is not CLOSED is refused. -/
theorem releaseBill_notClosed {s : State} {c : Byte} {n : BillNo} (h : c.toNat / 16 = n.val + 1)
    (notClosed : ∀ l k, s.bills.records.get n ≠ .closed l k) :
    releaseBill [c] s = refuse .wrongState s := by
  rw [releaseBill, releaseBill_number h]
  cases record : s.bills.records.get n with
  | free => simp [record]
  | opened l => simp [record]
  | closed l k => exact absurd record (notClosed l k)

/-- The state with a bill's record FREE. -/
def State.withFreed (s : State) (n : BillNo) : State :=
  s.setBills { s.bills with records := s.bills.records.set n .free }

/-- A CLOSED record becomes FREE, and the notice RELEASED is raised. -/
theorem releaseBill_closed {s : State} {c : Byte} {n : BillNo} {l : Lot} {k : BitVec 32}
    (h : c.toNat / 16 = n.val + 1) (closed : s.bills.records.get n = .closed l k) :
    releaseBill [c] s = done ((s.withFreed n).raiseNotice (.bill n .released)) := by
  simp only [releaseBill, releaseBill_number h, closed]
  rfl

/-- RELEASE_BILL of a CLOSED record frees it, raises RELEASED, is answered DONE and leaves all else as it is. -/
theorem exec_releaseBill_closed {s : State} {c : Byte} {n : BillNo} {l : Lot} {k : BitVec 32}
    (heard : s.hears 1 [c]) (h : c.toNat / 16 = n.val + 1) (closed : s.bills.records.get n = .closed l k) :
    exec (.releaseBill [c]) s = .next { s.withFreed n with
      notices := postNotice ⟨.bill n .released, (s.withFreed n).summary (.bill n .released)⟩ s.notices,
      service := s.answering (postNotice ⟨.bill n .released, (s.withFreed n).summary (.bill n .released)⟩ s.notices)
        0x72 [c] .done [],
      came := [] } :=
  State.take_serve_raise heard (releaseBill_closed (s := s.begin) h closed) rfl

/-- Settles O41: the number is outside 1 to 12, or names a record that is not CLOSED, or one that is. The summary of
the notice shows the state reached, because forming the reply leaves the bills as they are. -/
theorem releaseBillFreesTheRecord : Obligations.ReleaseBillFreesTheRecord := by
  intro s c heard _
  refine ⟨fun outside => State.take_serve_refuse heard (releaseBill_outside s.begin outside),
    fun n number => ⟨?_, ?_⟩⟩
  · intro notClosed
    exact State.take_serve_refuse heard (releaseBill_notClosed (s := s.begin) number notClosed)
  · intro l k closed
    exact ⟨_, exec_releaseBill_closed heard number closed, rfl, rfl⟩

end Sys2Proof.Machine
end

section
/-! SUPPORT. POLL_NOTICE (R187): what a heard request comes to whose work is done quietly, ATTENTION in a formed reply,
and the two cases of the notice queue. -/

namespace Sys2Proof.Machine

/-! ### Requests done quietly, and ATTENTION (R183, R197) -/

/-- A request that is heard, brings the state to `u` and lets nothing come about is answered DONE with its data. -/
theorem State.take_serve_done {s u : State} {code : Byte} {count : Nat} {p : List Byte}
    {act : State → State × Answer} {data : List Field} (heard : s.hears count p)
    (work : act s.begin = done u data) (quiet : u.came = []) :
    s.take (·.serve code count p act)
      = .next (u.setService (u.answering u.notices code p .done data)) := by
  have fresh : (act s.begin).1.came = [] := by rw [work]; exact quiet
  rw [State.take_serve_of_hears heard fresh, work, State.formReply_eq]
  rfl

/-- The highest bit of a status character is ATTENTION (R197). -/
theorem statusChar_attention (c : ResultCode) (overrun attention : Bool) :
    (statusChar c overrun attention).getLsbD 7 = attention := by
  revert overrun attention
  cases c <;> decide

/-- The reply that stands after an answer shows in ATTENTION whether a notice is queued (R184). -/
theorem State.answering_attention (s : State) (queued : List Notice) (code : Byte) (p : List Byte)
    (r : ResultCode) (data : List Field) :
    ∃ reply, (s.answering queued code p r data).reply = some reply
      ∧ (reply.chars.getD 3 0).getLsbD 7 = !queued.isEmpty := by
  refine ⟨_, rfl, ?_⟩
  rw [← statusChar_attention r s.service.overrun (!queued.isEmpty), statusChar_eq]
  rfl

/-! ### POLL_NOTICE (R187) -/

/-- With no notice queued the source NONE is answered. -/
theorem pollNotice_nil {s : State} (p : List Byte) (h : s.notices = []) : pollNotice p s = done s [.num 1 0] := by
  rw [pollNotice, h]

/-- The oldest notice leaves the queue and is answered. -/
theorem pollNotice_cons {s : State} {n : Notice} {rest : List Notice} (p : List Byte) (h : s.notices = n :: rest) :
    pollNotice p s = done (s.setNotices rest) (noticeData n) := by
  rw [pollNotice, h]

/-- POLL_NOTICE of an empty queue answers NONE and leaves all else as it is. -/
theorem exec_pollNotice_nil {s : State} (heard : s.hears 0 []) (h : s.notices = []) :
    exec (.pollNotice []) s = .next (s.readOut 0x90 [] [.num 1 0]) :=
  State.take_serve_done heard (pollNotice_nil (s := s.begin) [] h) rfl

/-- POLL_NOTICE removes the oldest notice, answers it and leaves all else as it is. -/
theorem exec_pollNotice_cons {s : State} {n : Notice} {rest : List Notice} (heard : s.hears 0 [])
    (h : s.notices = n :: rest) :
    exec (.pollNotice []) s = .next { s with
      notices := rest, service := s.answering rest 0x90 [] .done (noticeData n), came := [] } :=
  State.take_serve_done heard (pollNotice_cons (s := s.begin) [] h) rfl

/-- Settles O51: the queue is empty or has an oldest notice, and the reply is formed with the queue that is left. -/
theorem pollNoticeTakesTheOldest : Obligations.PollNoticeTakesTheOldest := by
  intro s heard
  refine ⟨fun n rest queued => exec_pollNotice_cons heard queued, exec_pollNotice_nil heard, ?_⟩
  cases queued : s.notices with
  | nil =>
    obtain ⟨reply, stands, attention⟩ := s.answering_attention s.notices 0x90 [] .done [.num 1 0]
    exact ⟨_, reply, exec_pollNotice_nil heard queued, stands, attention⟩
  | cons n rest =>
    obtain ⟨reply, stands, attention⟩ := s.answering_attention rest 0x90 [] .done (noticeData n)
    exact ⟨_, reply, exec_pollNotice_cons heard queued, stands, attention⟩

end Sys2Proof.Machine
end
